-- ==== Sys2Proof/Word.lean ====
section
/-! DEFINITION. The two word types of the machine: 8-bit registers and memory bytes, 16-bit SP, PC and
addresses (rule R7: REG8_WIDTH, REG16_WIDTH, ADDR_WIDTH; rule R9: unsigned, arithmetic wraps). -/

namespace Sys2Proof

/-- `u8` of rule R9: an 8-bit register, a memory byte. -/
abbrev Byte := BitVec 8

/-- `u16` of rule R9: SP, PC, a register pair, an address. -/
abbrev Word := BitVec 16

end Sys2Proof
end

