-- ==== Sys2Proof/Machine/Bits.lean ====
section
/-! DEFINITION. Bit fields, byte order and extension (rules R8, R9, R57): the helpers the decoder and
the machine share. -/

namespace Sys2Proof.Machine

/-- `v[15:8]` of a 16-bit value (rule R8). -/
def hiByte (w : Word) : Byte := w.extractLsb' 8 8

/-- `v[7:0]` of a 16-bit value (rule R8). -/
def loByte (w : Word) : Byte := w.extractLsb' 0 8

/-- `hi : lo`, the 16-bit value with `hi` in bits 15..8 (rule R8). -/
def wordOf (hi lo : Byte) : Word := hi ++ lo

/-- `sext_16(v)` of rule R9. -/
def sext16 (v : Byte) : Word := v.signExtend 16

/-- `zext_16(v)` of rule R9. -/
def zext16 (v : Byte) : Word := v.setWidth 16

/-- A carry or borrow as the number 0 or 1 (rule R92, `cin`). -/
def bitByte (b : Bool) : Byte := if b then 1 else 0

/-- `0xFF00 | v`: an address in the high page (rule R73). -/
def highPage (v : Byte) : Word := 0xFF00#16 ||| zext16 v

/-- The field `op[7:6]` of an opcode byte (rule R67). -/
def fieldX (op : Byte) : Nat := op.toNat / 64

/-- The field `op[5:3]` of an opcode byte (rule R67). -/
def fieldY (op : Byte) : Nat := op.toNat / 8 % 8

/-- The field `op[2:0]` of an opcode byte (rule R67). -/
def fieldZ (op : Byte) : Nat := op.toNat % 8

/-- The field `y` as a bit index 0..7 (rules R72, R73: `u3`). -/
def bitIndex (op : Byte) : Fin 8 := ⟨fieldY op, Nat.mod_lt _ (by decide)⟩

end Sys2Proof.Machine
end

