-- ==== Sys2Proof/Syntax.lean ====
section
/-! DEFINITION. The instructions, one constructor per row of spec/opcode_table.json (rules R75, R76), and the
operand names their rules use (rules R68 to R72). A row with immediate bytes carries them: `n` is `imm8`,
`nn` is `imm16` (rules R66, R73). -/

namespace Sys2Proof

/-- The registers an 8-bit operand code names (rule R68, codes 0-5 and 7). -/
inductive Reg8 where
  | b | c | d | e | h | l | a
  deriving DecidableEq, Repr

/-- An 8-bit operand: a register or, for code 6, the byte at HL (rule R68). -/
inductive Operand8 where
  | reg (r : Reg8)
  | atHl
  deriving DecidableEq, Repr

/-- `r16[p]` (rule R69). -/
inductive Reg16 where
  | bc | de | hl | sp
  deriving DecidableEq, Repr

/-- `r16stk[p]` (rule R69). -/
inductive RegStk where
  | bc | de | hl | af
  deriving DecidableEq, Repr

/-- `r16mem[p]` (rule R69). -/
inductive RegMem where
  | atBc | atDe | atHlInc | atHlDec
  deriving DecidableEq, Repr

/-- The condition codes (rule R70). -/
inductive Cond where
  | nz | z | nc | c
  deriving DecidableEq, Repr

/-- The ALU operations (rule R71). -/
inductive AluOp where
  | add | adc | sub | sbc | and | xor | or | cp
  deriving DecidableEq, Repr

/-- The prefixed rotates and shifts (rule R72). -/
inductive RotOp where
  | rlc | rrc | rl | rr | sla | sra | swap | srl
  deriving DecidableEq, Repr

/-- The instruction set, one constructor per row: the rows that carry immediate bytes, then the others, each in
the table's order. The constructors `undefinedXX` are the "unrecognized" sentinels (rule R206). `prefixCb op` is the row of the prefix
byte, which is no instruction of its own (rule R205). -/
inductive Instr where
  /-- 01: `LD BC,n16` (R115) -/
  | ldBcN16 (nn : Word)
  /-- 06: `LD B,n8` (R99) -/
  | ldBN8 (n : Byte)
  /-- 08: `LD [a16],SP` (R116) -/
  | ldAtA16Sp (nn : Word)
  /-- 0E: `LD C,n8` (R99) -/
  | ldCN8 (n : Byte)
  /-- 10: `STOP` (R202) -/
  | stop (n : Byte)
  /-- 11: `LD DE,n16` (R115) -/
  | ldDeN16 (nn : Word)
  /-- 16: `LD D,n8` (R99) -/
  | ldDN8 (n : Byte)
  /-- 18: `JR e8` (R188) -/
  | jrE8 (n : Byte)
  /-- 1E: `LD E,n8` (R99) -/
  | ldEN8 (n : Byte)
  /-- 20: `JR NZ,e8` (R189) -/
  | jrNzE8 (n : Byte)
  /-- 21: `LD HL,n16` (R115) -/
  | ldHlN16 (nn : Word)
  /-- 26: `LD H,n8` (R99) -/
  | ldHN8 (n : Byte)
  /-- 28: `JR Z,e8` (R189) -/
  | jrZE8 (n : Byte)
  /-- 2E: `LD L,n8` (R99) -/
  | ldLN8 (n : Byte)
  /-- 30: `JR NC,e8` (R189) -/
  | jrNcE8 (n : Byte)
  /-- 31: `LD SP,n16` (R115) -/
  | ldSpN16 (nn : Word)
  /-- 36: `LD [HL],n8` (R102) -/
  | ldAtHlN8 (n : Byte)
  /-- 38: `JR C,e8` (R189) -/
  | jrCE8 (n : Byte)
  /-- 3E: `LD A,n8` (R99) -/
  | ldAN8 (n : Byte)
  /-- C2: `JP NZ,a16` (R191) -/
  | jpNzA16 (nn : Word)
  /-- C3: `JP a16` (R190) -/
  | jpA16 (nn : Word)
  /-- C4: `CALL NZ,a16` (R194) -/
  | callNzA16 (nn : Word)
  /-- C6: `ADD A,n8` (R125) -/
  | addAN8 (n : Byte)
  /-- CA: `JP Z,a16` (R191) -/
  | jpZA16 (nn : Word)
  /-- CB: `PREFIX CB` (R205) -/
  | prefixCb (op : Byte)
  /-- CC: `CALL Z,a16` (R194) -/
  | callZA16 (nn : Word)
  /-- CD: `CALL a16` (R193) -/
  | callA16 (nn : Word)
  /-- CE: `ADC A,n8` (R128) -/
  | adcAN8 (n : Byte)
  /-- D2: `JP NC,a16` (R191) -/
  | jpNcA16 (nn : Word)
  /-- D4: `CALL NC,a16` (R194) -/
  | callNcA16 (nn : Word)
  /-- D6: `SUB A,n8` (R131) -/
  | subAN8 (n : Byte)
  /-- DA: `JP C,a16` (R191) -/
  | jpCA16 (nn : Word)
  /-- DC: `CALL C,a16` (R194) -/
  | callCA16 (nn : Word)
  /-- DE: `SBC A,n8` (R134) -/
  | sbcAN8 (n : Byte)
  /-- E0: `LDH [a8],A` (R112) -/
  | ldhAtA8A (n : Byte)
  /-- E6: `AND A,n8` (R137) -/
  | andAN8 (n : Byte)
  /-- E8: `ADD SP,e8` (R158) -/
  | addSpE8 (n : Byte)
  /-- EA: `LD [a16],A` (R110) -/
  | ldAtA16A (nn : Word)
  /-- EE: `XOR A,n8` (R140) -/
  | xorAN8 (n : Byte)
  /-- F0: `LDH A,[a8]` (R111) -/
  | ldhAAtA8 (n : Byte)
  /-- F6: `OR A,n8` (R143) -/
  | orAN8 (n : Byte)
  /-- F8: `LD HL,SP+e8` (R118) -/
  | ldHlSpE8 (n : Byte)
  /-- FA: `LD A,[a16]` (R109) -/
  | ldAAtA16 (nn : Word)
  /-- FE: `CP A,n8` (R146) -/
  | cpAN8 (n : Byte)
  /-- 00: `NOP` (R199) -/
  | nop
  /-- 02: `LD [BC],A` (R104) -/
  | ldAtBcA
  /-- 03: `INC BC` (R155) -/
  | incBc
  /-- 04: `INC B` (R147) -/
  | incB
  /-- 05: `DEC B` (R149) -/
  | decB
  /-- 07: `RLCA` (R161) -/
  | rlca
  /-- 09: `ADD HL,BC` (R157) -/
  | addHlBc
  /-- 0A: `LD A,[BC]` (R103) -/
  | ldAAtBc
  /-- 0B: `DEC BC` (R156) -/
  | decBc
  /-- 0C: `INC C` (R147) -/
  | incC
  /-- 0D: `DEC C` (R149) -/
  | decC
  /-- 0F: `RRCA` (R162) -/
  | rrca
  /-- 12: `LD [DE],A` (R104) -/
  | ldAtDeA
  /-- 13: `INC DE` (R155) -/
  | incDe
  /-- 14: `INC D` (R147) -/
  | incD
  /-- 15: `DEC D` (R149) -/
  | decD
  /-- 17: `RLA` (R163) -/
  | rla
  /-- 19: `ADD HL,DE` (R157) -/
  | addHlDe
  /-- 1A: `LD A,[DE]` (R103) -/
  | ldAAtDe
  /-- 1B: `DEC DE` (R156) -/
  | decDe
  /-- 1C: `INC E` (R147) -/
  | incE
  /-- 1D: `DEC E` (R149) -/
  | decE
  /-- 1F: `RRA` (R164) -/
  | rra
  /-- 22: `LD [HL+],A` (R107) -/
  | ldAtHlIncA
  /-- 23: `INC HL` (R155) -/
  | incHl
  /-- 24: `INC H` (R147) -/
  | incH
  /-- 25: `DEC H` (R149) -/
  | decH
  /-- 27: `DAA` (R151) -/
  | daa
  /-- 29: `ADD HL,HL` (R157) -/
  | addHlHl
  /-- 2A: `LD A,[HL+]` (R105) -/
  | ldAAtHlInc
  /-- 2B: `DEC HL` (R156) -/
  | decHl
  /-- 2C: `INC L` (R147) -/
  | incL
  /-- 2D: `DEC L` (R149) -/
  | decL
  /-- 2F: `CPL` (R152) -/
  | cpl
  /-- 32: `LD [HL-],A` (R108) -/
  | ldAtHlDecA
  /-- 33: `INC SP` (R155) -/
  | incSp
  /-- 34: `INC [HL]` (R148) -/
  | incAtHl
  /-- 35: `DEC [HL]` (R150) -/
  | decAtHl
  /-- 37: `SCF` (R153) -/
  | scf
  /-- 39: `ADD HL,SP` (R157) -/
  | addHlSp
  /-- 3A: `LD A,[HL-]` (R106) -/
  | ldAAtHlDec
  /-- 3B: `DEC SP` (R156) -/
  | decSp
  /-- 3C: `INC A` (R147) -/
  | incA
  /-- 3D: `DEC A` (R149) -/
  | decA
  /-- 3F: `CCF` (R154) -/
  | ccf
  /-- 40: `LD B,B` (R98) -/
  | ldBB
  /-- 41: `LD B,C` (R98) -/
  | ldBC
  /-- 42: `LD B,D` (R98) -/
  | ldBD
  /-- 43: `LD B,E` (R98) -/
  | ldBE
  /-- 44: `LD B,H` (R98) -/
  | ldBH
  /-- 45: `LD B,L` (R98) -/
  | ldBL
  /-- 46: `LD B,[HL]` (R100) -/
  | ldBAtHl
  /-- 47: `LD B,A` (R98) -/
  | ldBA
  /-- 48: `LD C,B` (R98) -/
  | ldCB
  /-- 49: `LD C,C` (R98) -/
  | ldCC
  /-- 4A: `LD C,D` (R98) -/
  | ldCD
  /-- 4B: `LD C,E` (R98) -/
  | ldCE
  /-- 4C: `LD C,H` (R98) -/
  | ldCH
  /-- 4D: `LD C,L` (R98) -/
  | ldCL
  /-- 4E: `LD C,[HL]` (R100) -/
  | ldCAtHl
  /-- 4F: `LD C,A` (R98) -/
  | ldCA
  /-- 50: `LD D,B` (R98) -/
  | ldDB
  /-- 51: `LD D,C` (R98) -/
  | ldDC
  /-- 52: `LD D,D` (R98) -/
  | ldDD
  /-- 53: `LD D,E` (R98) -/
  | ldDE
  /-- 54: `LD D,H` (R98) -/
  | ldDH
  /-- 55: `LD D,L` (R98) -/
  | ldDL
  /-- 56: `LD D,[HL]` (R100) -/
  | ldDAtHl
  /-- 57: `LD D,A` (R98) -/
  | ldDA
  /-- 58: `LD E,B` (R98) -/
  | ldEB
  /-- 59: `LD E,C` (R98) -/
  | ldEC
  /-- 5A: `LD E,D` (R98) -/
  | ldED
  /-- 5B: `LD E,E` (R98) -/
  | ldEE
  /-- 5C: `LD E,H` (R98) -/
  | ldEH
  /-- 5D: `LD E,L` (R98) -/
  | ldEL
  /-- 5E: `LD E,[HL]` (R100) -/
  | ldEAtHl
  /-- 5F: `LD E,A` (R98) -/
  | ldEA
  /-- 60: `LD H,B` (R98) -/
  | ldHB
  /-- 61: `LD H,C` (R98) -/
  | ldHC
  /-- 62: `LD H,D` (R98) -/
  | ldHD
  /-- 63: `LD H,E` (R98) -/
  | ldHE
  /-- 64: `LD H,H` (R98) -/
  | ldHH
  /-- 65: `LD H,L` (R98) -/
  | ldHL
  /-- 66: `LD H,[HL]` (R100) -/
  | ldHAtHl
  /-- 67: `LD H,A` (R98) -/
  | ldHA
  /-- 68: `LD L,B` (R98) -/
  | ldLB
  /-- 69: `LD L,C` (R98) -/
  | ldLC
  /-- 6A: `LD L,D` (R98) -/
  | ldLD
  /-- 6B: `LD L,E` (R98) -/
  | ldLE
  /-- 6C: `LD L,H` (R98) -/
  | ldLH
  /-- 6D: `LD L,L` (R98) -/
  | ldLL
  /-- 6E: `LD L,[HL]` (R100) -/
  | ldLAtHl
  /-- 6F: `LD L,A` (R98) -/
  | ldLA
  /-- 70: `LD [HL],B` (R101) -/
  | ldAtHlB
  /-- 71: `LD [HL],C` (R101) -/
  | ldAtHlC
  /-- 72: `LD [HL],D` (R101) -/
  | ldAtHlD
  /-- 73: `LD [HL],E` (R101) -/
  | ldAtHlE
  /-- 74: `LD [HL],H` (R101) -/
  | ldAtHlH
  /-- 75: `LD [HL],L` (R101) -/
  | ldAtHlL
  /-- 76: `HALT` (R200) -/
  | halt
  /-- 77: `LD [HL],A` (R101) -/
  | ldAtHlA
  /-- 78: `LD A,B` (R98) -/
  | ldAB
  /-- 79: `LD A,C` (R98) -/
  | ldAC
  /-- 7A: `LD A,D` (R98) -/
  | ldAD
  /-- 7B: `LD A,E` (R98) -/
  | ldAE
  /-- 7C: `LD A,H` (R98) -/
  | ldAH
  /-- 7D: `LD A,L` (R98) -/
  | ldAL
  /-- 7E: `LD A,[HL]` (R100) -/
  | ldAAtHl
  /-- 7F: `LD A,A` (R98) -/
  | ldAA
  /-- 80: `ADD A,B` (R123) -/
  | addAB
  /-- 81: `ADD A,C` (R123) -/
  | addAC
  /-- 82: `ADD A,D` (R123) -/
  | addAD
  /-- 83: `ADD A,E` (R123) -/
  | addAE
  /-- 84: `ADD A,H` (R123) -/
  | addAH
  /-- 85: `ADD A,L` (R123) -/
  | addAL
  /-- 86: `ADD A,[HL]` (R124) -/
  | addAAtHl
  /-- 87: `ADD A,A` (R123) -/
  | addAA
  /-- 88: `ADC A,B` (R126) -/
  | adcAB
  /-- 89: `ADC A,C` (R126) -/
  | adcAC
  /-- 8A: `ADC A,D` (R126) -/
  | adcAD
  /-- 8B: `ADC A,E` (R126) -/
  | adcAE
  /-- 8C: `ADC A,H` (R126) -/
  | adcAH
  /-- 8D: `ADC A,L` (R126) -/
  | adcAL
  /-- 8E: `ADC A,[HL]` (R127) -/
  | adcAAtHl
  /-- 8F: `ADC A,A` (R126) -/
  | adcAA
  /-- 90: `SUB A,B` (R129) -/
  | subAB
  /-- 91: `SUB A,C` (R129) -/
  | subAC
  /-- 92: `SUB A,D` (R129) -/
  | subAD
  /-- 93: `SUB A,E` (R129) -/
  | subAE
  /-- 94: `SUB A,H` (R129) -/
  | subAH
  /-- 95: `SUB A,L` (R129) -/
  | subAL
  /-- 96: `SUB A,[HL]` (R130) -/
  | subAAtHl
  /-- 97: `SUB A,A` (R129) -/
  | subAA
  /-- 98: `SBC A,B` (R132) -/
  | sbcAB
  /-- 99: `SBC A,C` (R132) -/
  | sbcAC
  /-- 9A: `SBC A,D` (R132) -/
  | sbcAD
  /-- 9B: `SBC A,E` (R132) -/
  | sbcAE
  /-- 9C: `SBC A,H` (R132) -/
  | sbcAH
  /-- 9D: `SBC A,L` (R132) -/
  | sbcAL
  /-- 9E: `SBC A,[HL]` (R133) -/
  | sbcAAtHl
  /-- 9F: `SBC A,A` (R132) -/
  | sbcAA
  /-- A0: `AND A,B` (R135) -/
  | andAB
  /-- A1: `AND A,C` (R135) -/
  | andAC
  /-- A2: `AND A,D` (R135) -/
  | andAD
  /-- A3: `AND A,E` (R135) -/
  | andAE
  /-- A4: `AND A,H` (R135) -/
  | andAH
  /-- A5: `AND A,L` (R135) -/
  | andAL
  /-- A6: `AND A,[HL]` (R136) -/
  | andAAtHl
  /-- A7: `AND A,A` (R135) -/
  | andAA
  /-- A8: `XOR A,B` (R138) -/
  | xorAB
  /-- A9: `XOR A,C` (R138) -/
  | xorAC
  /-- AA: `XOR A,D` (R138) -/
  | xorAD
  /-- AB: `XOR A,E` (R138) -/
  | xorAE
  /-- AC: `XOR A,H` (R138) -/
  | xorAH
  /-- AD: `XOR A,L` (R138) -/
  | xorAL
  /-- AE: `XOR A,[HL]` (R139) -/
  | xorAAtHl
  /-- AF: `XOR A,A` (R138) -/
  | xorAA
  /-- B0: `OR A,B` (R141) -/
  | orAB
  /-- B1: `OR A,C` (R141) -/
  | orAC
  /-- B2: `OR A,D` (R141) -/
  | orAD
  /-- B3: `OR A,E` (R141) -/
  | orAE
  /-- B4: `OR A,H` (R141) -/
  | orAH
  /-- B5: `OR A,L` (R141) -/
  | orAL
  /-- B6: `OR A,[HL]` (R142) -/
  | orAAtHl
  /-- B7: `OR A,A` (R141) -/
  | orAA
  /-- B8: `CP A,B` (R144) -/
  | cpAB
  /-- B9: `CP A,C` (R144) -/
  | cpAC
  /-- BA: `CP A,D` (R144) -/
  | cpAD
  /-- BB: `CP A,E` (R144) -/
  | cpAE
  /-- BC: `CP A,H` (R144) -/
  | cpAH
  /-- BD: `CP A,L` (R144) -/
  | cpAL
  /-- BE: `CP A,[HL]` (R145) -/
  | cpAAtHl
  /-- BF: `CP A,A` (R144) -/
  | cpAA
  /-- C0: `RET NZ` (R197) -/
  | retNz
  /-- C1: `POP BC` (R120) -/
  | popBc
  /-- C5: `PUSH BC` (R119) -/
  | pushBc
  /-- C7: `RST 0x00` (R195) -/
  | rst00
  /-- C8: `RET Z` (R197) -/
  | retZ
  /-- C9: `RET` (R196) -/
  | ret
  /-- CF: `RST 0x08` (R195) -/
  | rst08
  /-- D0: `RET NC` (R197) -/
  | retNc
  /-- D1: `POP DE` (R120) -/
  | popDe
  /-- D3: `(undefined 0xD3)` (R206) -/
  | undefinedD3
  /-- D5: `PUSH DE` (R119) -/
  | pushDe
  /-- D7: `RST 0x10` (R195) -/
  | rst10
  /-- D8: `RET C` (R197) -/
  | retC
  /-- D9: `RETI` (R198) -/
  | reti
  /-- DB: `(undefined 0xDB)` (R206) -/
  | undefinedDB
  /-- DD: `(undefined 0xDD)` (R206) -/
  | undefinedDD
  /-- DF: `RST 0x18` (R195) -/
  | rst18
  /-- E1: `POP HL` (R120) -/
  | popHl
  /-- E2: `LD [C],A` (R114) -/
  | ldAtCA
  /-- E3: `(undefined 0xE3)` (R206) -/
  | undefinedE3
  /-- E4: `(undefined 0xE4)` (R206) -/
  | undefinedE4
  /-- E5: `PUSH HL` (R119) -/
  | pushHl
  /-- E7: `RST 0x20` (R195) -/
  | rst20
  /-- E9: `JP HL` (R192) -/
  | jpHl
  /-- EB: `(undefined 0xEB)` (R206) -/
  | undefinedEB
  /-- EC: `(undefined 0xEC)` (R206) -/
  | undefinedEC
  /-- ED: `(undefined 0xED)` (R206) -/
  | undefinedED
  /-- EF: `RST 0x28` (R195) -/
  | rst28
  /-- F1: `POP AF` (R121) -/
  | popAf
  /-- F2: `LD A,[C]` (R113) -/
  | ldAAtC
  /-- F3: `DI` (R203) -/
  | di
  /-- F4: `(undefined 0xF4)` (R206) -/
  | undefinedF4
  /-- F5: `PUSH AF` (R119) -/
  | pushAf
  /-- F7: `RST 0x30` (R195) -/
  | rst30
  /-- F9: `LD SP,HL` (R117) -/
  | ldSpHl
  /-- FB: `EI` (R204) -/
  | ei
  /-- FC: `(undefined 0xFC)` (R206) -/
  | undefinedFC
  /-- FD: `(undefined 0xFD)` (R206) -/
  | undefinedFD
  /-- FF: `RST 0x38` (R195) -/
  | rst38
  /-- CB 00: `RLC B` (R165) -/
  | rlcB
  /-- CB 01: `RLC C` (R165) -/
  | rlcC
  /-- CB 02: `RLC D` (R165) -/
  | rlcD
  /-- CB 03: `RLC E` (R165) -/
  | rlcE
  /-- CB 04: `RLC H` (R165) -/
  | rlcH
  /-- CB 05: `RLC L` (R165) -/
  | rlcL
  /-- CB 06: `RLC [HL]` (R166) -/
  | rlcAtHl
  /-- CB 07: `RLC A` (R165) -/
  | rlcA
  /-- CB 08: `RRC B` (R167) -/
  | rrcB
  /-- CB 09: `RRC C` (R167) -/
  | rrcC
  /-- CB 0A: `RRC D` (R167) -/
  | rrcD
  /-- CB 0B: `RRC E` (R167) -/
  | rrcE
  /-- CB 0C: `RRC H` (R167) -/
  | rrcH
  /-- CB 0D: `RRC L` (R167) -/
  | rrcL
  /-- CB 0E: `RRC [HL]` (R168) -/
  | rrcAtHl
  /-- CB 0F: `RRC A` (R167) -/
  | rrcA
  /-- CB 10: `RL B` (R169) -/
  | rlB
  /-- CB 11: `RL C` (R169) -/
  | rlC
  /-- CB 12: `RL D` (R169) -/
  | rlD
  /-- CB 13: `RL E` (R169) -/
  | rlE
  /-- CB 14: `RL H` (R169) -/
  | rlH
  /-- CB 15: `RL L` (R169) -/
  | rlL
  /-- CB 16: `RL [HL]` (R170) -/
  | rlAtHl
  /-- CB 17: `RL A` (R169) -/
  | rlA
  /-- CB 18: `RR B` (R171) -/
  | rrB
  /-- CB 19: `RR C` (R171) -/
  | rrC
  /-- CB 1A: `RR D` (R171) -/
  | rrD
  /-- CB 1B: `RR E` (R171) -/
  | rrE
  /-- CB 1C: `RR H` (R171) -/
  | rrH
  /-- CB 1D: `RR L` (R171) -/
  | rrL
  /-- CB 1E: `RR [HL]` (R172) -/
  | rrAtHl
  /-- CB 1F: `RR A` (R171) -/
  | rrA
  /-- CB 20: `SLA B` (R173) -/
  | slaB
  /-- CB 21: `SLA C` (R173) -/
  | slaC
  /-- CB 22: `SLA D` (R173) -/
  | slaD
  /-- CB 23: `SLA E` (R173) -/
  | slaE
  /-- CB 24: `SLA H` (R173) -/
  | slaH
  /-- CB 25: `SLA L` (R173) -/
  | slaL
  /-- CB 26: `SLA [HL]` (R174) -/
  | slaAtHl
  /-- CB 27: `SLA A` (R173) -/
  | slaA
  /-- CB 28: `SRA B` (R175) -/
  | sraB
  /-- CB 29: `SRA C` (R175) -/
  | sraC
  /-- CB 2A: `SRA D` (R175) -/
  | sraD
  /-- CB 2B: `SRA E` (R175) -/
  | sraE
  /-- CB 2C: `SRA H` (R175) -/
  | sraH
  /-- CB 2D: `SRA L` (R175) -/
  | sraL
  /-- CB 2E: `SRA [HL]` (R176) -/
  | sraAtHl
  /-- CB 2F: `SRA A` (R175) -/
  | sraA
  /-- CB 30: `SWAP B` (R177) -/
  | swapB
  /-- CB 31: `SWAP C` (R177) -/
  | swapC
  /-- CB 32: `SWAP D` (R177) -/
  | swapD
  /-- CB 33: `SWAP E` (R177) -/
  | swapE
  /-- CB 34: `SWAP H` (R177) -/
  | swapH
  /-- CB 35: `SWAP L` (R177) -/
  | swapL
  /-- CB 36: `SWAP [HL]` (R178) -/
  | swapAtHl
  /-- CB 37: `SWAP A` (R177) -/
  | swapA
  /-- CB 38: `SRL B` (R179) -/
  | srlB
  /-- CB 39: `SRL C` (R179) -/
  | srlC
  /-- CB 3A: `SRL D` (R179) -/
  | srlD
  /-- CB 3B: `SRL E` (R179) -/
  | srlE
  /-- CB 3C: `SRL H` (R179) -/
  | srlH
  /-- CB 3D: `SRL L` (R179) -/
  | srlL
  /-- CB 3E: `SRL [HL]` (R180) -/
  | srlAtHl
  /-- CB 3F: `SRL A` (R179) -/
  | srlA
  /-- CB 40: `BIT 0,B` (R181) -/
  | bit0B
  /-- CB 41: `BIT 0,C` (R181) -/
  | bit0C
  /-- CB 42: `BIT 0,D` (R181) -/
  | bit0D
  /-- CB 43: `BIT 0,E` (R181) -/
  | bit0E
  /-- CB 44: `BIT 0,H` (R181) -/
  | bit0H
  /-- CB 45: `BIT 0,L` (R181) -/
  | bit0L
  /-- CB 46: `BIT 0,[HL]` (R182) -/
  | bit0AtHl
  /-- CB 47: `BIT 0,A` (R181) -/
  | bit0A
  /-- CB 48: `BIT 1,B` (R181) -/
  | bit1B
  /-- CB 49: `BIT 1,C` (R181) -/
  | bit1C
  /-- CB 4A: `BIT 1,D` (R181) -/
  | bit1D
  /-- CB 4B: `BIT 1,E` (R181) -/
  | bit1E
  /-- CB 4C: `BIT 1,H` (R181) -/
  | bit1H
  /-- CB 4D: `BIT 1,L` (R181) -/
  | bit1L
  /-- CB 4E: `BIT 1,[HL]` (R182) -/
  | bit1AtHl
  /-- CB 4F: `BIT 1,A` (R181) -/
  | bit1A
  /-- CB 50: `BIT 2,B` (R181) -/
  | bit2B
  /-- CB 51: `BIT 2,C` (R181) -/
  | bit2C
  /-- CB 52: `BIT 2,D` (R181) -/
  | bit2D
  /-- CB 53: `BIT 2,E` (R181) -/
  | bit2E
  /-- CB 54: `BIT 2,H` (R181) -/
  | bit2H
  /-- CB 55: `BIT 2,L` (R181) -/
  | bit2L
  /-- CB 56: `BIT 2,[HL]` (R182) -/
  | bit2AtHl
  /-- CB 57: `BIT 2,A` (R181) -/
  | bit2A
  /-- CB 58: `BIT 3,B` (R181) -/
  | bit3B
  /-- CB 59: `BIT 3,C` (R181) -/
  | bit3C
  /-- CB 5A: `BIT 3,D` (R181) -/
  | bit3D
  /-- CB 5B: `BIT 3,E` (R181) -/
  | bit3E
  /-- CB 5C: `BIT 3,H` (R181) -/
  | bit3H
  /-- CB 5D: `BIT 3,L` (R181) -/
  | bit3L
  /-- CB 5E: `BIT 3,[HL]` (R182) -/
  | bit3AtHl
  /-- CB 5F: `BIT 3,A` (R181) -/
  | bit3A
  /-- CB 60: `BIT 4,B` (R181) -/
  | bit4B
  /-- CB 61: `BIT 4,C` (R181) -/
  | bit4C
  /-- CB 62: `BIT 4,D` (R181) -/
  | bit4D
  /-- CB 63: `BIT 4,E` (R181) -/
  | bit4E
  /-- CB 64: `BIT 4,H` (R181) -/
  | bit4H
  /-- CB 65: `BIT 4,L` (R181) -/
  | bit4L
  /-- CB 66: `BIT 4,[HL]` (R182) -/
  | bit4AtHl
  /-- CB 67: `BIT 4,A` (R181) -/
  | bit4A
  /-- CB 68: `BIT 5,B` (R181) -/
  | bit5B
  /-- CB 69: `BIT 5,C` (R181) -/
  | bit5C
  /-- CB 6A: `BIT 5,D` (R181) -/
  | bit5D
  /-- CB 6B: `BIT 5,E` (R181) -/
  | bit5E
  /-- CB 6C: `BIT 5,H` (R181) -/
  | bit5H
  /-- CB 6D: `BIT 5,L` (R181) -/
  | bit5L
  /-- CB 6E: `BIT 5,[HL]` (R182) -/
  | bit5AtHl
  /-- CB 6F: `BIT 5,A` (R181) -/
  | bit5A
  /-- CB 70: `BIT 6,B` (R181) -/
  | bit6B
  /-- CB 71: `BIT 6,C` (R181) -/
  | bit6C
  /-- CB 72: `BIT 6,D` (R181) -/
  | bit6D
  /-- CB 73: `BIT 6,E` (R181) -/
  | bit6E
  /-- CB 74: `BIT 6,H` (R181) -/
  | bit6H
  /-- CB 75: `BIT 6,L` (R181) -/
  | bit6L
  /-- CB 76: `BIT 6,[HL]` (R182) -/
  | bit6AtHl
  /-- CB 77: `BIT 6,A` (R181) -/
  | bit6A
  /-- CB 78: `BIT 7,B` (R181) -/
  | bit7B
  /-- CB 79: `BIT 7,C` (R181) -/
  | bit7C
  /-- CB 7A: `BIT 7,D` (R181) -/
  | bit7D
  /-- CB 7B: `BIT 7,E` (R181) -/
  | bit7E
  /-- CB 7C: `BIT 7,H` (R181) -/
  | bit7H
  /-- CB 7D: `BIT 7,L` (R181) -/
  | bit7L
  /-- CB 7E: `BIT 7,[HL]` (R182) -/
  | bit7AtHl
  /-- CB 7F: `BIT 7,A` (R181) -/
  | bit7A
  /-- CB 80: `RES 0,B` (R183) -/
  | res0B
  /-- CB 81: `RES 0,C` (R183) -/
  | res0C
  /-- CB 82: `RES 0,D` (R183) -/
  | res0D
  /-- CB 83: `RES 0,E` (R183) -/
  | res0E
  /-- CB 84: `RES 0,H` (R183) -/
  | res0H
  /-- CB 85: `RES 0,L` (R183) -/
  | res0L
  /-- CB 86: `RES 0,[HL]` (R184) -/
  | res0AtHl
  /-- CB 87: `RES 0,A` (R183) -/
  | res0A
  /-- CB 88: `RES 1,B` (R183) -/
  | res1B
  /-- CB 89: `RES 1,C` (R183) -/
  | res1C
  /-- CB 8A: `RES 1,D` (R183) -/
  | res1D
  /-- CB 8B: `RES 1,E` (R183) -/
  | res1E
  /-- CB 8C: `RES 1,H` (R183) -/
  | res1H
  /-- CB 8D: `RES 1,L` (R183) -/
  | res1L
  /-- CB 8E: `RES 1,[HL]` (R184) -/
  | res1AtHl
  /-- CB 8F: `RES 1,A` (R183) -/
  | res1A
  /-- CB 90: `RES 2,B` (R183) -/
  | res2B
  /-- CB 91: `RES 2,C` (R183) -/
  | res2C
  /-- CB 92: `RES 2,D` (R183) -/
  | res2D
  /-- CB 93: `RES 2,E` (R183) -/
  | res2E
  /-- CB 94: `RES 2,H` (R183) -/
  | res2H
  /-- CB 95: `RES 2,L` (R183) -/
  | res2L
  /-- CB 96: `RES 2,[HL]` (R184) -/
  | res2AtHl
  /-- CB 97: `RES 2,A` (R183) -/
  | res2A
  /-- CB 98: `RES 3,B` (R183) -/
  | res3B
  /-- CB 99: `RES 3,C` (R183) -/
  | res3C
  /-- CB 9A: `RES 3,D` (R183) -/
  | res3D
  /-- CB 9B: `RES 3,E` (R183) -/
  | res3E
  /-- CB 9C: `RES 3,H` (R183) -/
  | res3H
  /-- CB 9D: `RES 3,L` (R183) -/
  | res3L
  /-- CB 9E: `RES 3,[HL]` (R184) -/
  | res3AtHl
  /-- CB 9F: `RES 3,A` (R183) -/
  | res3A
  /-- CB A0: `RES 4,B` (R183) -/
  | res4B
  /-- CB A1: `RES 4,C` (R183) -/
  | res4C
  /-- CB A2: `RES 4,D` (R183) -/
  | res4D
  /-- CB A3: `RES 4,E` (R183) -/
  | res4E
  /-- CB A4: `RES 4,H` (R183) -/
  | res4H
  /-- CB A5: `RES 4,L` (R183) -/
  | res4L
  /-- CB A6: `RES 4,[HL]` (R184) -/
  | res4AtHl
  /-- CB A7: `RES 4,A` (R183) -/
  | res4A
  /-- CB A8: `RES 5,B` (R183) -/
  | res5B
  /-- CB A9: `RES 5,C` (R183) -/
  | res5C
  /-- CB AA: `RES 5,D` (R183) -/
  | res5D
  /-- CB AB: `RES 5,E` (R183) -/
  | res5E
  /-- CB AC: `RES 5,H` (R183) -/
  | res5H
  /-- CB AD: `RES 5,L` (R183) -/
  | res5L
  /-- CB AE: `RES 5,[HL]` (R184) -/
  | res5AtHl
  /-- CB AF: `RES 5,A` (R183) -/
  | res5A
  /-- CB B0: `RES 6,B` (R183) -/
  | res6B
  /-- CB B1: `RES 6,C` (R183) -/
  | res6C
  /-- CB B2: `RES 6,D` (R183) -/
  | res6D
  /-- CB B3: `RES 6,E` (R183) -/
  | res6E
  /-- CB B4: `RES 6,H` (R183) -/
  | res6H
  /-- CB B5: `RES 6,L` (R183) -/
  | res6L
  /-- CB B6: `RES 6,[HL]` (R184) -/
  | res6AtHl
  /-- CB B7: `RES 6,A` (R183) -/
  | res6A
  /-- CB B8: `RES 7,B` (R183) -/
  | res7B
  /-- CB B9: `RES 7,C` (R183) -/
  | res7C
  /-- CB BA: `RES 7,D` (R183) -/
  | res7D
  /-- CB BB: `RES 7,E` (R183) -/
  | res7E
  /-- CB BC: `RES 7,H` (R183) -/
  | res7H
  /-- CB BD: `RES 7,L` (R183) -/
  | res7L
  /-- CB BE: `RES 7,[HL]` (R184) -/
  | res7AtHl
  /-- CB BF: `RES 7,A` (R183) -/
  | res7A
  /-- CB C0: `SET 0,B` (R185) -/
  | set0B
  /-- CB C1: `SET 0,C` (R185) -/
  | set0C
  /-- CB C2: `SET 0,D` (R185) -/
  | set0D
  /-- CB C3: `SET 0,E` (R185) -/
  | set0E
  /-- CB C4: `SET 0,H` (R185) -/
  | set0H
  /-- CB C5: `SET 0,L` (R185) -/
  | set0L
  /-- CB C6: `SET 0,[HL]` (R186) -/
  | set0AtHl
  /-- CB C7: `SET 0,A` (R185) -/
  | set0A
  /-- CB C8: `SET 1,B` (R185) -/
  | set1B
  /-- CB C9: `SET 1,C` (R185) -/
  | set1C
  /-- CB CA: `SET 1,D` (R185) -/
  | set1D
  /-- CB CB: `SET 1,E` (R185) -/
  | set1E
  /-- CB CC: `SET 1,H` (R185) -/
  | set1H
  /-- CB CD: `SET 1,L` (R185) -/
  | set1L
  /-- CB CE: `SET 1,[HL]` (R186) -/
  | set1AtHl
  /-- CB CF: `SET 1,A` (R185) -/
  | set1A
  /-- CB D0: `SET 2,B` (R185) -/
  | set2B
  /-- CB D1: `SET 2,C` (R185) -/
  | set2C
  /-- CB D2: `SET 2,D` (R185) -/
  | set2D
  /-- CB D3: `SET 2,E` (R185) -/
  | set2E
  /-- CB D4: `SET 2,H` (R185) -/
  | set2H
  /-- CB D5: `SET 2,L` (R185) -/
  | set2L
  /-- CB D6: `SET 2,[HL]` (R186) -/
  | set2AtHl
  /-- CB D7: `SET 2,A` (R185) -/
  | set2A
  /-- CB D8: `SET 3,B` (R185) -/
  | set3B
  /-- CB D9: `SET 3,C` (R185) -/
  | set3C
  /-- CB DA: `SET 3,D` (R185) -/
  | set3D
  /-- CB DB: `SET 3,E` (R185) -/
  | set3E
  /-- CB DC: `SET 3,H` (R185) -/
  | set3H
  /-- CB DD: `SET 3,L` (R185) -/
  | set3L
  /-- CB DE: `SET 3,[HL]` (R186) -/
  | set3AtHl
  /-- CB DF: `SET 3,A` (R185) -/
  | set3A
  /-- CB E0: `SET 4,B` (R185) -/
  | set4B
  /-- CB E1: `SET 4,C` (R185) -/
  | set4C
  /-- CB E2: `SET 4,D` (R185) -/
  | set4D
  /-- CB E3: `SET 4,E` (R185) -/
  | set4E
  /-- CB E4: `SET 4,H` (R185) -/
  | set4H
  /-- CB E5: `SET 4,L` (R185) -/
  | set4L
  /-- CB E6: `SET 4,[HL]` (R186) -/
  | set4AtHl
  /-- CB E7: `SET 4,A` (R185) -/
  | set4A
  /-- CB E8: `SET 5,B` (R185) -/
  | set5B
  /-- CB E9: `SET 5,C` (R185) -/
  | set5C
  /-- CB EA: `SET 5,D` (R185) -/
  | set5D
  /-- CB EB: `SET 5,E` (R185) -/
  | set5E
  /-- CB EC: `SET 5,H` (R185) -/
  | set5H
  /-- CB ED: `SET 5,L` (R185) -/
  | set5L
  /-- CB EE: `SET 5,[HL]` (R186) -/
  | set5AtHl
  /-- CB EF: `SET 5,A` (R185) -/
  | set5A
  /-- CB F0: `SET 6,B` (R185) -/
  | set6B
  /-- CB F1: `SET 6,C` (R185) -/
  | set6C
  /-- CB F2: `SET 6,D` (R185) -/
  | set6D
  /-- CB F3: `SET 6,E` (R185) -/
  | set6E
  /-- CB F4: `SET 6,H` (R185) -/
  | set6H
  /-- CB F5: `SET 6,L` (R185) -/
  | set6L
  /-- CB F6: `SET 6,[HL]` (R186) -/
  | set6AtHl
  /-- CB F7: `SET 6,A` (R185) -/
  | set6A
  /-- CB F8: `SET 7,B` (R185) -/
  | set7B
  /-- CB F9: `SET 7,C` (R185) -/
  | set7C
  /-- CB FA: `SET 7,D` (R185) -/
  | set7D
  /-- CB FB: `SET 7,E` (R185) -/
  | set7E
  /-- CB FC: `SET 7,H` (R185) -/
  | set7H
  /-- CB FD: `SET 7,L` (R185) -/
  | set7L
  /-- CB FE: `SET 7,[HL]` (R186) -/
  | set7AtHl
  /-- CB FF: `SET 7,A` (R185) -/
  | set7A
  deriving DecidableEq, Repr

end Sys2Proof
end

