-- ==== Sys2Proof/Machine/Flags.lean ====
section
/-! DEFINITION. The flag register F (rules R20, R21) and every flag computation: the two helpers (rules R90, R91),
their chained forms (rule R92), the ALU operations (rules R122 to R146), INC and DEC (rule R93), DAA (rule R151), the
16-bit adds (rules R118, R157, R158) and the rotates and shifts (rules R159 to R179). -/

namespace Sys2Proof.Machine

/-! ### F -/

/-- Z is F[7] (rule R20). -/
def flagZ (f : Byte) : Bool := f.getLsbD 7

/-- N is F[6] (rule R20). -/
def flagN (f : Byte) : Bool := f.getLsbD 6

/-- Hf is F[5] (rule R20). -/
def flagH (f : Byte) : Bool := f.getLsbD 5

/-- Cf is F[4] (rule R20). -/
def flagC (f : Byte) : Bool := f.getLsbD 4

/-- F with the bits of `mask` set or cleared: "A flag write changes one of bits 7..4 only" (rule R21). -/
def putFlag (mask : Byte) (v : Bool) (f : Byte) : Byte := if v then f ||| mask else f &&& ~~~mask

/-- `Z <- v` (rule R10). -/
def putZ (v : Bool) (f : Byte) : Byte := putFlag 0x80 v f

/-- `N <- v` (rule R10). -/
def putN (v : Bool) (f : Byte) : Byte := putFlag 0x40 v f

/-- `Hf <- v` (rule R10). -/
def putH (v : Bool) (f : Byte) : Byte := putFlag 0x20 v f

/-- `Cf <- v` (rule R10). -/
def putC (v : Bool) (f : Byte) : Byte := putFlag 0x10 v f

/-- All four flags written; F[3:0] is kept. -/
def putZNHC (z n h c : Bool) (f : Byte) : Byte := putC c (putH h (putN n (putZ z f)))

/-- The mask a whole-F write goes through: "POP into AF masks the low nibble of F to zero" (rules R21, R121). -/
def maskF (v : Byte) : Byte := v &&& 0xF0#8

/-- `cond(cc)` (rules R70, R88). -/
def condHolds (cc : Cond) (f : Byte) : Bool :=
  match cc with
  | .nz => !flagZ f
  | .z => flagZ f
  | .nc => !flagC f
  | .c => flagC f

/-! ### The helpers -/

/-- A result with its half-carry (or half-borrow) and full carry (or borrow). -/
structure Tracked where
  value : Byte
  half : Bool
  full : Bool
  deriving DecidableEq, Repr

/-- `carry_track_add_u8` (rule R90). -/
def carryTrackAddU8 (lhs rhs : Byte) : Tracked :=
  { value := lhs + rhs
    half := decide (((lhs.toNat % 16 + rhs.toNat % 16) / 16) % 2 ≠ 0)
    full := decide (lhs.toNat + rhs.toNat > 0xFF) }

/-- `carry_track_sub_u8` (rule R91). -/
def carryTrackSubU8 (lhs rhs : Byte) : Tracked :=
  { value := lhs - rhs
    half := decide (lhs.toNat % 16 < rhs.toNat % 16)
    full := decide (lhs.toNat < rhs.toNat) }

/-- `adc8`: the add helper applied twice, the flags ORed (rule R92). -/
def adc8 (a b : Byte) (cin : Bool) : Tracked :=
  let t1 := carryTrackAddU8 a b
  let t2 := carryTrackAddU8 t1.value (bitByte cin)
  { value := t2.value, half := t1.half || t2.half, full := t1.full || t2.full }

/-- `sbc8`: the subtract helper applied twice, the flags ORed (rule R92). -/
def sbc8 (a b : Byte) (cin : Bool) : Tracked :=
  let t1 := carryTrackSubU8 a b
  let t2 := carryTrackSubU8 t1.value (bitByte cin)
  { value := t2.value, half := t1.half || t2.half, full := t1.full || t2.full }

/-! ### The eight ALU operations -/

/-- A byte result and the four flags an operation writes. -/
structure AluOut where
  value : Byte
  z : Bool
  n : Bool
  h : Bool
  c : Bool
  deriving DecidableEq, Repr

/-- A tracked result as an ALU result: Z is the result test. -/
def Tracked.toAlu (t : Tracked) (n : Bool) : AluOut :=
  { value := t.value, z := decide (t.value = 0), n := n, h := t.half, c := t.full }

/-- A logic result: N and C cleared, H as given (rules R135, R138, R141). -/
def logicOut (r : Byte) (h : Bool) : AluOut := { value := r, z := decide (r = 0), n := false, h := h, c := false }

/-- The eight operations on A and the operand `v` with the carry-in (rules R123 to R146). -/
def aluEval (op : AluOp) (a v : Byte) (cin : Bool) : AluOut :=
  match op with
  | .add => (carryTrackAddU8 a v).toAlu false
  | .adc => (adc8 a v cin).toAlu false
  | .sub => (carryTrackSubU8 a v).toAlu true
  | .sbc => (sbc8 a v cin).toAlu true
  | .and => logicOut (a &&& v) true
  | .xor => logicOut (a ^^^ v) false
  | .or => logicOut (a ||| v) false
  | .cp => (carryTrackSubU8 a v).toAlu true

/-- Whether the operation writes its result to A: all but CP, "CP must not mutate A" (rules R122, R144). -/
def aluWritesA (op : AluOp) : Bool :=
  match op with
  | .cp => false
  | .add | .adc | .sub | .sbc | .and | .xor | .or => true

/-! ### Increment, decrement, adjustments -/

/-- INC: the add helper with 1, the full carry discarded (rules R93, R147). -/
def incEval (v : Byte) : Tracked := carryTrackAddU8 v 1

/-- DEC: the subtract helper with 1, the full borrow discarded (rules R93, R149). -/
def decEval (v : Byte) : Tracked := carryTrackSubU8 v 1

/-- DAA (rule R151): the adjusted A and the new carry, from A, N, Hf and Cf. -/
def daaEval (a : Byte) (n h c : Bool) : Byte × Bool :=
  if n then
    let adj1 : Byte := if c then 0x60 else 0x00
    let adj : Byte := if h then adj1 ||| 0x06 else adj1
    (a - adj, c)
  else
    let big : Bool := c || decide (a.toNat > 0x99)
    let adj1 : Byte := if big then 0x60 else 0x00
    let adj : Byte := if h || decide (a.toNat % 16 > 0x09) then adj1 ||| 0x06 else adj1
    (a + adj, big)

/-! ### 16-bit adds -/

/-- The half-carry of ADD HL,r16: out of bit 11 (rule R157). -/
def addHlHalf (hl v : Word) : Bool := decide (hl.toNat % 0x1000 + v.toNat % 0x1000 > 0x0FFF)

/-- The carry of ADD HL,r16: out of bit 15 (rule R157). -/
def addHlCarry (hl v : Word) : Bool := decide (hl.toNat + v.toNat > 0xFFFF)

/-- The half-carry of ADD SP,e8 and LD HL,SP+e8: out of bit 3 of the low-byte add (rules R118, R158). -/
def addSpHalf (sp : Word) (n : Byte) : Bool := decide (sp.toNat % 16 + n.toNat % 16 > 0x0F)

/-- The carry of ADD SP,e8 and LD HL,SP+e8: out of bit 7 of the low-byte add (rules R118, R158). -/
def addSpCarry (sp : Word) (n : Byte) : Bool := decide (sp.toNat % 256 + n.toNat > 0xFF)

/-! ### Rotates and shifts -/

/-- The result and the evicted bit of each rotate or shift of `v` with the old carry `cin` (rules R161 to R179). -/
def rotEval (op : RotOp) (v : Byte) (cin : Bool) : Byte × Bool :=
  match op with
  | .rlc => ((v <<< 1) ||| bitByte (v.getLsbD 7), v.getLsbD 7)
  | .rrc => ((v >>> 1) ||| (bitByte (v.getLsbD 0) <<< 7), v.getLsbD 0)
  | .rl => ((v <<< 1) ||| bitByte cin, v.getLsbD 7)
  | .rr => ((v >>> 1) ||| (bitByte cin <<< 7), v.getLsbD 0)
  | .sla => (v <<< 1, v.getLsbD 7)
  | .sra => ((v >>> 1) ||| (v &&& 0x80#8), v.getLsbD 0)
  | .swap => ((v <<< 4) ||| (v >>> 4), false)
  | .srl => (v >>> 1, v.getLsbD 0)

/-- `v` with bit `b` cleared (rules R183, R184). -/
def clearBit (b : Fin 8) (v : Byte) : Byte := v &&& ~~~((1 : Byte) <<< b.val)

/-- `v` with bit `b` set (rules R185, R186). -/
def setBit (b : Fin 8) (v : Byte) : Byte := v ||| ((1 : Byte) <<< b.val)

end Sys2Proof.Machine
end

