-- ==== Sys2Proof/Config.lean ====
section
/-! DEFINITION. The parameters a model takes (rule R7): the fixed numbers of the pixel pipeline, the
configuration the steps read, and what building the machine is given besides it (rule R233): the
cartridge's bytes, the boot ROM, the palette and the draws. No value of this file is opaque: the spec
leaves no instruction's result open, and its only open values, the draws, are arguments of
`Machine.State.build`. -/

namespace Sys2Proof

/-- T-cycles of OAMScan (rules R7, R212). -/
def Config.oamScanCycles : Nat := 80

/-- T-cycles of one scanline (rule R7). -/
def Config.lineCycles : Nat := 456

/-- Scanlines that are drawn (rule R7). -/
def Config.visibleLines : Nat := 144

/-- Scanlines of a frame (rule R7). -/
def Config.totalLines : Nat := 154

/-- Width of the picture (rule R7). -/
def Config.screenW : Nat := 160

/-- Height of the picture (rule R7). -/
def Config.screenH : Nat := 144

/-- Entries the pixel FIFO can hold (rules R7, R220). -/
def Config.fifoCap : Nat := 16

/-- Pixels one Push adds (rules R7, R220). -/
def Config.fifoRefill : Nat := 8

/-- T-cycles of one frame of the driver (rules R7, R231). -/
def Config.frameCycles : Nat := 70224

/-- T-cycles per increment of DIV (rules R7, R253). -/
def Config.divPeriod : Nat := 256

/-- Bytes of one ROM bank (rules R34, R48). -/
def Config.bankSize : Nat := 0x4000

/-- Bytes of the boot ROM overlay (rules R34, R46). -/
def Config.bootRomSize : Nat := 256

/-- Bytes of VRAM, of external RAM and of work RAM (rules R34, R46). -/
def Config.ramSize : Nat := 8192

/-- Bytes of OAM (rules R34, R46). -/
def Config.oamSize : Nat := 160

/-- Bytes of the I/O region (rules R34, R46). -/
def Config.ioSize : Nat := 128

/-- Bytes of high RAM (rules R34, R46). -/
def Config.hramSize : Nat := 127

/-- `acc_rotate_z`: what the accumulator rotates do to Z (rules R7, R160). -/
inductive AccRotateZ where
  | preserve
  | clear
  deriving DecidableEq, Repr

/-- `stop_behaviour` (rules R7, R202). -/
inductive StopBehaviour where
  | notImplemented
  | haltLike
  deriving DecidableEq, Repr

/-- A "packed color value" (rule R7: opaque). The machine only copies it.
DESIGN CHOICE (log 5): the packed value is any natural number. -/
structure Color where
  packed : Nat
  deriving DecidableEq, Repr

/-- The 4-entry table from colour index to output colour (rules R43, R222). -/
structure Palette where
  c0 : Color
  c1 : Color
  c2 : Color
  c3 : Color
  deriving DecidableEq, Repr

/-- The parameters the steps read, fixed when the machine is built (rules R7, R228). -/
structure Config where
  accRotateZ : AccRotateZ
  stopBehaviour : StopBehaviour
  interruptsModelled : Bool
  romWritesStick : Bool
  romBankCount : Nat
  deriving DecidableEq, Repr

/-- `rom_bank_count` is a natural number at least 1 (rule R7). -/
abbrev Config.valid (c : Config) : Prop := 1 ≤ c.romBankCount

/-- The defaults of rule R7. DESIGN CHOICE (log 4): two ROM banks, as 95_test_vectors.md section 0 has. -/
def Config.default : Config :=
  { accRotateZ := .preserve, stopBehaviour := .notImplemented, interruptsModelled := false,
    romWritesStick := false, romBankCount := 2 }

/-- The draws `reg_init`, `ram_init` and `fb_init` (rules R7, R258): the power-on values the spec
leaves free. A byte list shorter than its region is 0x00 from its end on, so every content of a region
is some list. -/
structure Draw where
  a : Byte
  b : Byte
  c : Byte
  d : Byte
  e : Byte
  f : Byte
  h : Byte
  l : Byte
  sp : Word
  vram : List Byte
  eram : List Byte
  wram : List Byte
  oam : List Byte
  hram : List Byte
  ie : Byte
  frameBuffer : List Color
  deriving DecidableEq, Repr

/-- DESIGN CHOICE (log 1, 2, 3): the draw of `State.reset`, zero everywhere. -/
def Draw.zero : Draw :=
  { a := 0, b := 0, c := 0, d := 0, e := 0, f := 0, h := 0, l := 0, sp := 0,
    vram := [], eram := [], wram := [], oam := [], hram := [], ie := 0, frameBuffer := [] }

/-- What building the machine is given (rule R233). -/
structure Setup where
  config : Config
  romImage : List Byte
  bootRom : List Byte
  palette : Palette
  draw : Draw
  deriving DecidableEq, Repr

/-- DESIGN CHOICE (log 4): the machine `State.reset` builds: default parameters, an empty cartridge
image, an empty boot ROM and the identity palette. -/
def Setup.default : Setup :=
  { config := Config.default, romImage := [], bootRom := [],
    palette := { c0 := ⟨0⟩, c1 := ⟨1⟩, c2 := ⟨2⟩, c3 := ⟨3⟩ }, draw := Draw.zero }

end Sys2Proof
end

