-- ==== Sys2Proof/Machine/Memory.lean ====
section
/-! DEFINITION. Storage in one canonical form: a list of (index, value) pairs, indexes strictly rising,
no entry equal to what an unlisted index reads as. `Memory` is the byte storage of one region of the
bus (rule R34), indexed by the offset in its region; the frame buffer (rule R223) is the same form
with colours for bytes. -/

namespace Sys2Proof.Machine

/-- Sparse storage: what is not listed reads as the region's blank value. -/
abbrev Sparse (α : Type) := List (Nat × α)

/-- Byte storage of one region: cells of (offset, byte). -/
abbrev Memory := List Host.Cell

/-- The value at index `i`. -/
def Sparse.get {α : Type} (blank : α) : List (Nat × α) → Nat → α
  | [], _ => blank
  | (k, v) :: m, i => if k = i then v else Sparse.get blank m i

/-- `m` with value `v` at index `i`, kept in canonical form: storing the blank value removes the entry. -/
def Sparse.set {α : Type} [DecidableEq α] (blank : α) : List (Nat × α) → Nat → α → List (Nat × α)
  | [], i, v => if v = blank then [] else [(i, v)]
  | (k, w) :: m, i, v =>
    if i < k then (if v = blank then (k, w) :: m else (i, v) :: (k, w) :: m)
    else if i = k then (if v = blank then m else (i, v) :: m)
    else (k, w) :: Sparse.set blank m i v

/-- Canonical form from index `lo` on: indexes rise strictly, lie below `size`, and no entry is blank. -/
def Sparse.wfFrom {α : Type} [DecidableEq α] (blank : α) (size : Nat) : Nat → List (Nat × α) → Bool
  | _, [] => true
  | lo, (k, v) :: m =>
    decide (lo ≤ k) && decide (k < size) && decide (v ≠ blank) && Sparse.wfFrom blank size (k + 1) m

/-- Canonical form of storage of `size` entries. -/
def Sparse.wf {α : Type} [DecidableEq α] (blank : α) (size : Nat) (m : List (Nat × α)) : Bool :=
  Sparse.wfFrom blank size 0 m

/-- The canonical storage that holds the values `vs` from index `k` on. -/
def Sparse.ofList {α : Type} [DecidableEq α] (blank : α) : Nat → List α → List (Nat × α)
  | _, [] => []
  | k, v :: vs => if v = blank then Sparse.ofList blank (k + 1) vs else (k, v) :: Sparse.ofList blank (k + 1) vs

/-- What an unlisted byte of RAM, OAM, HRAM, I/O or the boot ROM reads as: 0x00. It is the spec's value for
I/O (D3) and for the boot ROM past its supplied bytes (D7); for RAM it is a DESIGN CHOICE (log 2). -/
def blankByte : Byte := 0x00

/-- What an unlisted byte of the ROM storage reads as: 0xFF, the padding past the image (rule R48, D6). -/
def romBlank : Byte := 0xFF

/-- What an unlisted pixel of the frame buffer is. DESIGN CHOICE (log 3). -/
def blankColor : Color := ⟨0⟩

/-- One byte of a region's storage. -/
def Memory.get (blank : Byte) (m : Memory) (i : Nat) : Byte := Sparse.get blank m i

/-- A region's storage with one byte written. -/
def Memory.set (blank : Byte) (m : Memory) (i : Nat) (v : Byte) : Memory := Sparse.set blank m i v

/-- The canonical form of a region's storage. -/
def Memory.wf (blank : Byte) (size : Nat) (m : Memory) : Bool := Sparse.wf blank size m

/-- The first `size` bytes of a list as a region's storage. -/
def Memory.ofBytes (blank : Byte) (size : Nat) (bs : List Byte) : Memory :=
  Sparse.ofList blank 0 (bs.take size)

end Sys2Proof.Machine
end

