-- ==== Sys2Proof/Machine/State.lean ====
section
/-! DEFINITION. The machine's state as plain data: the "single owning System aggregate" of rule R228
(register file, CPU control state, memory bus, PPU, frame counter), the configuration it was built with
(rule R7), the reasons a step can stop, and reset (rule R258). -/

namespace Sys2Proof.Machine

/-- The fatal errors of rule R243. `State.fault` records one (rule R32); a step of a state that records
one stops with it (rule R245). -/
inductive Fault where
  /-- Raised by the eleven undefined opcode bytes (rule R206). Safe: the spec's own terminal fault. -/
  | unrecognizedOpcode (code : Byte) (prefixed : Bool)
  /-- Raised by STOP under `stop_behaviour = not_implemented` (rule R202). Safe: the spec's own terminal fault. -/
  | opcodeNotImplemented (code : Byte) (prefixed : Bool)
  /-- Raised by nothing (rule R89); kept because the host's fault interface reports it. Safe. -/
  | opcodeError (message : String)
  deriving DecidableEq, Repr

/-- The reasons a step can be refused. -/
inductive Refusal where
  /-- Raised by `exec` alone, for an instruction that has no meaning yet. Safe: the machine stops where
  the hardware goes on. No arm of this model uses it. -/
  | notModelled (mnemonic : String)
  deriving DecidableEq, Repr

/-- What a CPU step, an instruction's meaning and a system step answer. -/
abbrev Out (S : Type) := Host.Outcome S Fault Refusal

/-- The register file (rule R18): seven general registers and the flag register F (rule R20). -/
structure RegFile where
  a : Byte
  b : Byte
  c : Byte
  d : Byte
  e : Byte
  f : Byte
  h : Byte
  l : Byte
  deriving DecidableEq, Repr

/-- The memory bus (rule R34): the storage of every region, the overlay flag, the bank selection, IE and
the DIV counter. Each `Memory` is indexed by the offset in its region. -/
structure Bus where
  /-- index n * 0x4000 + offset for bank n; unlisted bytes are 0xFF (rule R48) -/
  rom : Memory
  bootRom : Memory
  bootRomMapped : Bool
  romBank : BitVec 5
  vram : Memory
  eram : Memory
  wram : Memory
  oam : Memory
  /-- 0xFF00-0xFF7F (rules R35 to R41) -/
  io : Memory
  hram : Memory
  ie : Byte
  divCounter : Word
  deriving DecidableEq, Repr

/-- The PPU modes (rule R43). -/
inductive Mode where
  | oamScan
  | drawingPixels
  | hBlank
  | vBlank
  deriving DecidableEq, Repr

/-- The fetcher's stages (rules R43, R216). -/
inductive FetchStage where
  | getTileNumber
  | tileDataLow
  | tileDataHigh
  | push
  deriving DecidableEq, Repr

/-- The PPU's own fields (rule R43). LY and the mode's mirror live in `Bus.io`. -/
structure Ppu where
  mode : Mode
  lineCycles : Nat
  fetcherState : FetchStage
  /-- 0 is `false`, 1 is `true` (rule R213) -/
  fetchDiv : Bool
  fetcherX : BitVec 5
  tileNumber : Byte
  tileDataAddr : Word
  tileLo : Byte
  tileHi : Byte
  fifo : List Color
  scanlineX : Nat
  discard : BitVec 3
  /-- index LY * 160 + x (rules R221, R223) -/
  frameBuffer : Sparse Color
  palette : Palette
  deriving DecidableEq, Repr

/-- Where an address reads from (rules R46, R49): the storage of one region and the offset in it, the gap,
the DIV counter or IE. -/
inductive Slot where
  | bootRom (i : Nat)
  | rom (i : Nat)
  | vram (i : Nat)
  | eram (i : Nat)
  | wram (i : Nat)
  | oam (i : Nat)
  | gap
  | div
  | io (i : Nat)
  | hram (i : Nat)
  | ie
  deriving DecidableEq, Repr

/-- The machine (rule R228). -/
structure State where
  regs : RegFile
  sp : Word
  pc : Word
  ime : Bool
  halted : Bool
  /-- the fatal error that stopped the CORE, if any (rule R32) -/
  fault : Option Fault
  /-- the "skip default PC advance" signal (rules R33, R228); `false` between steps (log 19) -/
  skip : Bool
  /-- the T-cycle count the last CPU step returned (rules R12, R87; log 7) -/
  cycles : Nat
  bus : Bus
  ppu : Ppu
  /-- the frame driver's counter (rules R228, R231) -/
  frameCycles : Nat
  /-- the parameters the machine was built with (rules R7, R228); no step writes them -/
  config : Config
  deriving DecidableEq, Repr

/-- Building the machine (rules R233, R258): the reset state for a configuration, a cartridge, a boot ROM,
a palette and a draw of every power-on value the spec leaves free. -/
def State.build (b : Setup) : State :=
  { regs :=
      { a := b.draw.a, b := b.draw.b, c := b.draw.c, d := b.draw.d, e := b.draw.e,
        f := b.draw.f &&& 0xF0#8, h := b.draw.h, l := b.draw.l }
    sp := b.draw.sp
    pc := 0x0000#16
    ime := false
    halted := false
    fault := none
    skip := false
    cycles := 0
    bus :=
      { rom := Memory.ofBytes romBlank (b.config.romBankCount * Config.bankSize) b.romImage
        bootRom := Memory.ofBytes blankByte Config.bootRomSize b.bootRom
        bootRomMapped := true
        romBank := 1#5
        vram := Memory.ofBytes blankByte Config.ramSize b.draw.vram
        eram := Memory.ofBytes blankByte Config.ramSize b.draw.eram
        wram := Memory.ofBytes blankByte Config.ramSize b.draw.wram
        oam := Memory.ofBytes blankByte Config.oamSize b.draw.oam
        io := [(0x41, 0x02#8)]
        hram := Memory.ofBytes blankByte Config.hramSize b.draw.hram
        ie := b.draw.ie
        divCounter := 0x0000#16 }
    ppu :=
      { mode := .oamScan, lineCycles := 0, fetcherState := .getTileNumber, fetchDiv := false,
        fetcherX := 0#5, tileNumber := 0, tileDataAddr := 0, tileLo := 0, tileHi := 0, fifo := [],
        scanlineX := 0, discard := 0#3
        frameBuffer := Sparse.ofList blankColor 0 (b.draw.frameBuffer.take (Config.screenW * Config.screenH))
        palette := b.palette }
    frameCycles := 0
    config := b.config }

/-- The machine right after reset (rule R258) for the default configuration and the zero draw
(log 1, 2, 3, 4). -/
def State.reset : State := State.build Setup.default

end Sys2Proof.Machine
end

