-- ==== Sys2Proof/Machine/Operands.lean ====
section
/-! DEFINITION. The register operands: the eight bytes of the register file and their paired views (rules R18, R22),
the operand codes (rules R68, R69), and the source's addressing modes with their resolution (rules R16, R85). -/

namespace Sys2Proof.Machine

/-! ### 8-bit registers -/

/-- A general register (rules R19, R68). -/
def RegFile.get (rf : RegFile) (r : Reg8) : Byte :=
  match r with
  | .b => rf.b
  | .c => rf.c
  | .d => rf.d
  | .e => rf.e
  | .h => rf.h
  | .l => rf.l
  | .a => rf.a

/-- A general register written. -/
def RegFile.put (rf : RegFile) (r : Reg8) (v : Byte) : RegFile :=
  match r with
  | .b => { rf with b := v }
  | .c => { rf with c := v }
  | .d => { rf with d := v }
  | .e => { rf with e := v }
  | .h => { rf with h := v }
  | .l => { rf with l := v }
  | .a => { rf with a := v }

/-! ### Paired views (rule R22): the first-named register is high -/

def RegFile.bc (rf : RegFile) : Word := wordOf rf.b rf.c

def RegFile.de (rf : RegFile) : Word := wordOf rf.d rf.e

def RegFile.hl (rf : RegFile) : Word := wordOf rf.h rf.l

def RegFile.af (rf : RegFile) : Word := wordOf rf.a rf.f

def RegFile.putBc (rf : RegFile) (v : Word) : RegFile := { rf with b := hiByte v, c := loByte v }

def RegFile.putDe (rf : RegFile) (v : Word) : RegFile := { rf with d := hiByte v, e := loByte v }

def RegFile.putHl (rf : RegFile) (v : Word) : RegFile := { rf with h := hiByte v, l := loByte v }

/-- "Writing AF writes F with `v[7:0] & 0xF0`" (rule R22). -/
def RegFile.putAf (rf : RegFile) (v : Word) : RegFile := { rf with a := hiByte v, f := maskF (loByte v) }

/-! ### Registers of the state -/

/-- `r8[i]` read, for a code that names a register. -/
def State.reg (s : State) (r : Reg8) : Byte := s.regs.get r

/-- `r8[i] <- v`. -/
def State.putReg (s : State) (r : Reg8) (v : Byte) : State := { s with regs := s.regs.put r v }

/-- HL, the address of the `[HL]` forms. -/
def State.hl (s : State) : Word := s.regs.hl

/-- `HL <- v`. -/
def State.putHl (s : State) (v : Word) : State := { s with regs := s.regs.putHl v }

/-- F written whole. -/
def State.putF (s : State) (f : Byte) : State := { s with regs := { s.regs with f := f } }

/-- `r16[p]` read (rule R69). -/
def State.pair (s : State) (p : Reg16) : Word :=
  match p with
  | .bc => s.regs.bc
  | .de => s.regs.de
  | .hl => s.regs.hl
  | .sp => s.sp

/-- `r16[p] <- v`. -/
def State.putPair (s : State) (p : Reg16) (v : Word) : State :=
  match p with
  | .bc => { s with regs := s.regs.putBc v }
  | .de => { s with regs := s.regs.putDe v }
  | .hl => { s with regs := s.regs.putHl v }
  | .sp => { s with sp := v }

/-- `r16stk[p]` read (rule R69). -/
def State.stk (s : State) (p : RegStk) : Word :=
  match p with
  | .bc => s.regs.bc
  | .de => s.regs.de
  | .hl => s.regs.hl
  | .af => s.regs.af

/-- `r16stk[p] <- v`; AF masks F (rules R22, R121). -/
def State.putStk (s : State) (p : RegStk) (v : Word) : State :=
  match p with
  | .bc => { s with regs := s.regs.putBc v }
  | .de => { s with regs := s.regs.putDe v }
  | .hl => { s with regs := s.regs.putHl v }
  | .af => { s with regs := s.regs.putAf v }

/-- The address `r16mem[p]` names (rule R69). -/
def State.memAddr (s : State) (p : RegMem) : Word :=
  match p with
  | .atBc => s.regs.bc
  | .atDe => s.regs.de
  | .atHlInc => s.regs.hl
  | .atHlDec => s.regs.hl

/-- The post-modification of HL that `r16mem[p]` carries (rules R69, R105 to R108). -/
def State.memStep (s : State) (p : RegMem) : State :=
  match p with
  | .atBc => s
  | .atDe => s
  | .atHlInc => s.putHl (s.hl + 1)
  | .atHlDec => s.putHl (s.hl - 1)

/-- The address `0xFF00 | C` (rules R73, R113). -/
def State.ioAddr (s : State) : Word := highPage s.regs.c

/-- The four flags written (rule R10). -/
def State.putFlags (s : State) (z n h c : Bool) : State := s.putF (putZNHC z n h c s.regs.f)

/-- Z, N and Hf written, Cf kept (rules R147 to R150, R181). -/
def State.putZNH (s : State) (z n h : Bool) : State := s.putF (putH h (putN n (putZ z s.regs.f)))

/-- N, Hf and Cf written, Z kept (rules R153, R154, R157). -/
def State.putNHC (s : State) (n h c : Bool) : State := s.putF (putC c (putH h (putN n s.regs.f)))

/-- SP plus a signed offset into `d`, with the flags of the low-byte add: LD HL,SP+e8 and ADD SP,e8 (rules R118, R158). -/
def State.addSpInto (s : State) (d : Reg16) (n : Byte) : State :=
  (s.putPair d (s.sp + sext16 n)).putFlags false false (addSpHalf s.sp n) (addSpCarry s.sp n)

/-! ### Addressing modes -/

/-- The register operands of a descriptor. -/
inductive ModeReg where
  | r8 (r : Reg8)
  | af
  | pair (p : Reg16)
  deriving DecidableEq, Repr

/-- The address pairs of `AddressRegister` (rule R16). -/
inductive ModePair where
  | bc | de | hl
  deriving DecidableEq, Repr

/-- The source's closed variant of addressing modes (rule R16), with the three entries spec/opcode_table.json adds
for forms the variant cannot express: the post-modified `[HL]` and the bit index. -/
inductive AddrMode where
  | immediateRegister (r : ModeReg)
  | addressRegister (p : ModePair)
  | immediateU8
  | immediateI8
  | immediateU16
  | addressU16
  | addressHram
  | ioAddressOffset
  | none
  | hlPostIncrement
  | hlPostDecrement
  | bitIndex (b : Fin 8)
  deriving DecidableEq, Repr

/-- What operand resolution produces: "one of 8-bit value, 16-bit value, signed 8-bit value, memory address,
none" (rule R85). -/
inductive OperandValue where
  | u8 (v : Byte)
  | u16 (v : Word)
  | i8 (v : Int)
  | address (a : Word)
  | none
  deriving DecidableEq, Repr

/-- `get_data(mode)` with the instruction's immediate bytes (rule R85). DESIGN CHOICE (log 28): R85 names no result for the
three modes outside its list; the post-modified forms yield the address in HL before the step, the bit index its number
as an 8-bit value. No step reads it. -/
def State.getData (s : State) (imm8 : Byte) (imm16 : Word) (m : AddrMode) : OperandValue :=
  match m with
  | .immediateRegister (.r8 r) => .u8 (s.reg r)
  | .immediateRegister .af => .u16 s.regs.af
  | .immediateRegister (.pair p) => .u16 (s.pair p)
  | .addressRegister .bc => .address s.regs.bc
  | .addressRegister .de => .address s.regs.de
  | .addressRegister .hl => .address s.regs.hl
  | .immediateU8 => .u8 imm8
  | .immediateI8 => .i8 imm8.toInt
  | .immediateU16 => .u16 imm16
  | .addressU16 => .address imm16
  | .addressHram => .address (highPage imm8)
  | .ioAddressOffset => .address s.ioAddr
  | .none => .none
  | .hlPostIncrement => .address s.regs.hl
  | .hlPostDecrement => .address s.regs.hl
  | .bitIndex b => .u8 (BitVec.ofNat 8 b.val)

end Sys2Proof.Machine
end

