-- ==== Sys2Proof/Machine/Ops.lean ====
section
/-! DEFINITION. The memory bus (rules R45 to R60), the stack primitives (rules R61, R62), the PC advance (rule R86),
the fatal errors (rules R243, R244), and the entry to and return from an interrupt handler (rules R248, R250, R251). -/

namespace Sys2Proof.Machine

/-! ### Address decode -/

/-- `eff_bank`: the bank that 0x4000-0x7FFF shows (rule R48, D5). -/
def State.effBank (s : State) : Nat := s.bus.romBank.toNat % s.config.romBankCount

/-- Where an address reads from (rules R46, R49), in the order of rule R49's pseudocode. -/
def State.slot (s : State) (a : Word) : Slot :=
  let n := a.toNat
  if s.bus.bootRomMapped = true ∧ n ≤ 0x00FF then .bootRom n
  else if n ≤ 0x3FFF then .rom n
  else if n ≤ 0x7FFF then .rom (s.effBank * Config.bankSize + (n - 0x4000))
  else if n ≤ 0x9FFF then .vram (n - 0x8000)
  else if n ≤ 0xBFFF then .eram (n - 0xA000)
  else if n ≤ 0xDFFF then .wram (n - 0xC000)
  else if n ≤ 0xFDFF then .wram (n - 0xE000)
  else if n ≤ 0xFE9F then .oam (n - 0xFE00)
  else if n ≤ 0xFEFF then .gap
  else if n = 0xFF04 then .div
  else if n ≤ 0xFF7F then .io (n - 0xFF00)
  else if n ≤ 0xFFFE then .hram (n - 0xFF80)
  else .ie

/-- The byte a slot holds (rule R49): the gap reads 0x00, DIV reads `div_counter[15:8]`. -/
def Bus.readSlot (b : Bus) (x : Slot) : Byte :=
  match x with
  | .bootRom i => b.bootRom.get blankByte i
  | .rom i => b.rom.get romBlank i
  | .vram i => b.vram.get blankByte i
  | .eram i => b.eram.get blankByte i
  | .wram i => b.wram.get blankByte i
  | .oam i => b.oam.get blankByte i
  | .gap => 0x00#8
  | .div => hiByte b.divCounter
  | .io i => b.io.get blankByte i
  | .hram i => b.hram.get blankByte i
  | .ie => b.ie

/-- The bus with a byte put into a slot's storage, with no side effect (rules R51, R234): the gap keeps nothing, DIV
takes the byte as `div_counter[15:8]`. -/
def Bus.pokeSlot (b : Bus) (x : Slot) (v : Byte) : Bus :=
  match x with
  | .bootRom i => { b with bootRom := b.bootRom.set blankByte i v }
  | .rom i => { b with rom := b.rom.set romBlank i v }
  | .vram i => { b with vram := b.vram.set blankByte i v }
  | .eram i => { b with eram := b.eram.set blankByte i v }
  | .wram i => { b with wram := b.wram.set blankByte i v }
  | .oam i => { b with oam := b.oam.set blankByte i v }
  | .gap => b
  | .div => { b with divCounter := wordOf v (loByte b.divCounter) }
  | .io i => { b with io := b.io.set blankByte i v }
  | .hram i => { b with hram := b.hram.set blankByte i v }
  | .ie => { b with ie := v }

/-! ### Reads -/

/-- `read_u8(a)` = `MemRead(a, 1)` (rule R49). -/
def State.readU8 (s : State) (a : Word) : Byte := s.bus.readSlot (s.slot a)

/-- `read_u16(a)` = `MemRead(a, 2)`: little-endian, the address wraps (rule R50). -/
def State.readU16 (s : State) (a : Word) : Word := wordOf (s.readU8 (a + 1)) (s.readU8 a)

/-- The I/O byte at offset `i` of 0xFF00. -/
def State.io (s : State) (i : Nat) : Byte := s.bus.io.get blankByte i

/-- An I/O byte written directly, with no side effect (rule R55). -/
def State.putIo (s : State) (i : Nat) (v : Byte) : State :=
  { s with bus := { s.bus with io := s.bus.io.set blankByte i v } }

/-! ### Writes -/

/-- A byte stored where the address reads from, with no side effect (rules R51 `rom_writes_stick`, R234). -/
def State.poke (s : State) (a : Word) (v : Byte) : State := { s with bus := s.bus.pokeSlot (s.slot a) v }

/-- `bank_select(v)` (rule R52): the low five bits, with 0 remapped to 1. -/
def bankOf (v : Byte) : BitVec 5 :=
  let b := v.extractLsb' 0 5
  if b = 0#5 then 1#5 else b

/-- `bank_select(v)` changes only `rom_bank` (rules R52, R53). -/
def State.bankSelect (s : State) (v : Byte) : State := { s with bus := { s.bus with romBank := bankOf v } }

/-- A CPU write to 0x0000-0x7FFF (rule R51): stored only under `rom_writes_stick`; 0x2000-0x3FFF selects a bank. -/
def State.writeRom (s : State) (a : Word) (v : Byte) : State :=
  let s1 := if s.config.romWritesStick then s.poke a v else s
  if 0x2000 ≤ a.toNat ∧ a.toNat ≤ 0x3FFF then s1.bankSelect v else s1

/-- `write_u8(a, v)` = `MemWrite(a, 1, v)`, the CPU's write with its side effects (rule R51). DESIGN CHOICE
(log 27): as the bus operation the host may call (rules R12, R242) it acts on a state that records a fault too. -/
def State.writeU8 (s : State) (a : Word) (v : Byte) : State :=
  if a.toNat ≤ 0x7FFF then s.writeRom a v
  else if a = 0xFF04#16 then { s with bus := { s.bus with divCounter := 0x0000#16 } }
  else if a = 0xFF41#16 then s.putIo 0x41 ((v &&& 0xF8#8) ||| (s.io 0x41 &&& 0x07#8))
  else if a = 0xFF44#16 then s
  else if a = 0xFF50#16 then
    { s with bus := { s.bus with io := s.bus.io.set blankByte 0x50 v, bootRomMapped := false } }
  else s.poke a v

/-- `MemWrite(a, 2, v)`: the low byte first (rule R54). -/
def State.writeU16 (s : State) (a v : Word) : State := (s.writeU8 a (loByte v)).writeU8 (a + 1) (hiByte v)

/-! ### Stack -/

/-- One half of a push: SP is decremented, then the byte is written at SP (rule R61). -/
def State.pushByte (s : State) (v : Byte) : State := { s with sp := s.sp - 1 }.writeU8 (s.sp - 1) v

/-- `Push16(v)`: the high byte, then the low byte (rule R61). -/
def State.push16 (s : State) (v : Word) : State := (s.pushByte (hiByte v)).pushByte (loByte v)

/-- The word `Pop16()` returns: low byte at SP, high byte at SP + 1 (rule R62). -/
def State.popValue (s : State) : Word := wordOf (s.readU8 (s.sp + 1)) (s.readU8 s.sp)

/-- The state `Pop16()` leaves: SP + 2 (rule R62). -/
def State.popped (s : State) : State := { s with sp := s.sp + 1 + 1 }

/-! ### PC -/

/-- `pc <- target`: a control-flow write, which suppresses the default advance (rules R10, R86). -/
def State.jump (s : State) (target : Word) : State := { s with pc := target, skip := true }

/-- The start of an instruction's rule: no control-flow write yet, the base cycle count (rules R33, R82). -/
def State.begin (s : State) (cycles : Nat) : State := { s with skip := false, cycles := cycles }

/-- The PC advance at the end of a step (rule R86); the signal does not survive the step (rule R33). -/
def State.advance (s : State) (len : Nat) : State :=
  if s.skip then { s with skip := false } else { s with pc := s.pc + BitVec.ofNat 16 len, skip := false }

/-- One instruction of length `len` and base cost `cycles` whose rule is `rule` (rules R82, R86, R87). -/
def runRule (len cycles : Nat) (rule : State → State) (s : State) : Out State :=
  .next ((rule (s.begin cycles)).advance len)

/-- `next_pc`, the address of the following instruction (rule R11). -/
def State.nextPc (s : State) (len : Nat) : Word := s.pc + BitVec.ofNat 16 len

/-- `cycles <- n`: the count of a condition that holds (rules R10, R87). -/
def State.putCycles (s : State) (n : Nat) : State := { s with cycles := n }

/-! ### Fatal errors, interrupts -/

/-- `raise E`: the fault is recorded and nothing else changes (rules R206, R244, D29); the system
step returns it as its fault (rule R230, log 6). -/
def State.raise (s : State) (e : Fault) : State := { s with fault := some e }

/-- IF, 0xFF0F (rule R39). -/
def State.intFlags (s : State) : Byte := s.io 0x0F

/-- Taking interrupt `j` (rules R248, R250): IF[j] and IME cleared, PC pushed, PC at the vector. -/
def State.enterInterrupt (s : State) (j : Fin 5) : State :=
  let s1 := s.putIo 0x0F (s.intFlags &&& ~~~((1 : Byte) <<< j.val))
  let s2 := { s1 with ime := false }
  let s3 := s2.push16 s2.pc
  { s3 with pc := 0x0040#16 + 8#16 * BitVec.ofNat 16 j.val }

/-- The return from an interrupt handler (rules R198, R251): PC popped, IME set. -/
def State.returnInterrupt (s : State) : State := { s.popped.jump s.popValue with ime := true }

end Sys2Proof.Machine
end

