-- ==== Sys2Proof/Machine/Alu16.lean ====
section
/-! DEFINITION. 16-bit arithmetic (44_alu_16bit.md, rules R155 to R158). -/

namespace Sys2Proof.Machine

/-- `INC r16` (rule R155). -/
def incPair (p : Reg16) (s : State) : Out State := runRule 1 8 (fun t => t.putPair p (t.pair p + 1)) s

/-- `DEC r16` (rule R156). -/
def decPair (p : Reg16) (s : State) : Out State := runRule 1 8 (fun t => t.putPair p (t.pair p - 1)) s

/-- `ADD HL,r16` (rule R157): Z is kept. -/
def addHlPair (p : Reg16) (s : State) : Out State :=
  runRule 1 8 (fun t =>
    (t.putNHC false (addHlHalf t.hl (t.pair p)) (addHlCarry t.hl (t.pair p))).putHl (t.hl + t.pair p)) s

/-- 03: `INC BC` (rule R155). -/
def execIncBc (s : State) : Out State := incPair .bc s

/-- 09: `ADD HL,BC` (rule R157). -/
def execAddHlBc (s : State) : Out State := addHlPair .bc s

/-- 0B: `DEC BC` (rule R156). -/
def execDecBc (s : State) : Out State := decPair .bc s

/-- 13: `INC DE` (rule R155). -/
def execIncDe (s : State) : Out State := incPair .de s

/-- 19: `ADD HL,DE` (rule R157). -/
def execAddHlDe (s : State) : Out State := addHlPair .de s

/-- 1B: `DEC DE` (rule R156). -/
def execDecDe (s : State) : Out State := decPair .de s

/-- 23: `INC HL` (rule R155). -/
def execIncHl (s : State) : Out State := incPair .hl s

/-- 29: `ADD HL,HL` (rule R157). -/
def execAddHlHl (s : State) : Out State := addHlPair .hl s

/-- 2B: `DEC HL` (rule R156). -/
def execDecHl (s : State) : Out State := decPair .hl s

/-- 33: `INC SP` (rule R155). -/
def execIncSp (s : State) : Out State := incPair .sp s

/-- 39: `ADD HL,SP` (rule R157). -/
def execAddHlSp (s : State) : Out State := addHlPair .sp s

/-- 3B: `DEC SP` (rule R156). -/
def execDecSp (s : State) : Out State := decPair .sp s

/-- E8: `ADD SP,e8` (rule R158). -/
def execAddSpE8 (n : Byte) (s : State) : Out State := runRule 2 16 (fun t => t.addSpInto .sp n) s

end Sys2Proof.Machine
end

