-- ==== Sys2Proof/Machine/Alu8.lean ====
section
/-! DEFINITION. 8-bit arithmetic and logic (43_alu_8bit.md, rules R122 to R154). -/

namespace Sys2Proof.Machine

/-- An ALU operation of A and `v`: the result to A except for CP, and the four flags (rules R122 to R146). -/
def State.aluApply (s : State) (op : AluOp) (v : Byte) : State :=
  let o := aluEval op (s.reg .a) v (flagC s.regs.f)
  (if aluWritesA op then s.putReg .a o.value else s).putFlags o.z o.n o.h o.c

/-- The register form, 4 cycles (rule R122). -/
def aluReg (op : AluOp) (r : Reg8) (s : State) : Out State := runRule 1 4 (fun t => t.aluApply op (t.reg r)) s

/-- The `[HL]` form, 8 cycles (rule R122). -/
def aluAtHl (op : AluOp) (s : State) : Out State := runRule 1 8 (fun t => t.aluApply op (t.readU8 t.hl)) s

/-- The immediate form, 8 cycles (rule R122). -/
def aluImm (op : AluOp) (n : Byte) (s : State) : Out State := runRule 2 8 (fun t => t.aluApply op n) s

/-- Z, N and H of INC or DEC; Cf is kept (rules R147, R149). -/
def State.putStepFlags (s : State) (o : Tracked) (n : Bool) : State := s.putZNH (decide (o.value = 0)) n o.half

/-- `INC r8` (rule R147). -/
def incReg (r : Reg8) (s : State) : Out State :=
  runRule 1 4 (fun t => (t.putReg r (incEval (t.reg r)).value).putStepFlags (incEval (t.reg r)) false) s

/-- `DEC r8` (rule R149). -/
def decReg (r : Reg8) (s : State) : Out State :=
  runRule 1 4 (fun t => (t.putReg r (decEval (t.reg r)).value).putStepFlags (decEval (t.reg r)) true) s

/-- `INC [HL]`: read, write, flags (rule R148). -/
def State.incAtHl (s : State) : State :=
  let o := incEval (s.readU8 s.hl)
  (s.writeU8 s.hl o.value).putStepFlags o false

/-- `DEC [HL]`: read, write, flags (rule R150). -/
def State.decAtHl (s : State) : State :=
  let o := decEval (s.readU8 s.hl)
  (s.writeU8 s.hl o.value).putStepFlags o true

/-- `DAA` (rule R151): A and Cf adjusted, Z recomputed, Hf cleared, N kept. -/
def State.adjustA (s : State) : State :=
  let f := s.regs.f
  let (r, c) := daaEval (s.reg .a) (flagN f) (flagH f) (flagC f)
  (s.putReg .a r).putF (putC c (putH false (putZ (decide (r = 0)) f)))

/-- 04: `INC B` (rule R147). -/
def execIncB (s : State) : Out State := incReg .b s

/-- 05: `DEC B` (rule R149). -/
def execDecB (s : State) : Out State := decReg .b s

/-- 0C: `INC C` (rule R147). -/
def execIncC (s : State) : Out State := incReg .c s

/-- 0D: `DEC C` (rule R149). -/
def execDecC (s : State) : Out State := decReg .c s

/-- 14: `INC D` (rule R147). -/
def execIncD (s : State) : Out State := incReg .d s

/-- 15: `DEC D` (rule R149). -/
def execDecD (s : State) : Out State := decReg .d s

/-- 1C: `INC E` (rule R147). -/
def execIncE (s : State) : Out State := incReg .e s

/-- 1D: `DEC E` (rule R149). -/
def execDecE (s : State) : Out State := decReg .e s

/-- 24: `INC H` (rule R147). -/
def execIncH (s : State) : Out State := incReg .h s

/-- 25: `DEC H` (rule R149). -/
def execDecH (s : State) : Out State := decReg .h s

/-- 27: `DAA` (rule R151). -/
def execDaa (s : State) : Out State := runRule 1 4 State.adjustA s

/-- 2C: `INC L` (rule R147). -/
def execIncL (s : State) : Out State := incReg .l s

/-- 2D: `DEC L` (rule R149). -/
def execDecL (s : State) : Out State := decReg .l s

/-- 2F: `CPL` (rule R152). -/
def execCpl (s : State) : Out State :=
  runRule 1 4 (fun t => (t.putReg .a (t.reg .a ^^^ 0xFF#8)).putF (putH true (putN true t.regs.f))) s

/-- 34: `INC [HL]` (rule R148). -/
def execIncAtHl (s : State) : Out State := runRule 1 12 (fun t => t.incAtHl) s

/-- 35: `DEC [HL]` (rule R150). -/
def execDecAtHl (s : State) : Out State := runRule 1 12 (fun t => t.decAtHl) s

/-- 37: `SCF` (rule R153). -/
def execScf (s : State) : Out State := runRule 1 4 (fun t => t.putNHC false false true) s

/-- 3C: `INC A` (rule R147). -/
def execIncA (s : State) : Out State := incReg .a s

/-- 3D: `DEC A` (rule R149). -/
def execDecA (s : State) : Out State := decReg .a s

/-- 3F: `CCF` (rule R154). -/
def execCcf (s : State) : Out State := runRule 1 4 (fun t => t.putNHC false false (!flagC t.regs.f)) s

/-- 80: `ADD A,B` (rule R123). -/
def execAddAB (s : State) : Out State := aluReg .add .b s

/-- 81: `ADD A,C` (rule R123). -/
def execAddAC (s : State) : Out State := aluReg .add .c s

/-- 82: `ADD A,D` (rule R123). -/
def execAddAD (s : State) : Out State := aluReg .add .d s

/-- 83: `ADD A,E` (rule R123). -/
def execAddAE (s : State) : Out State := aluReg .add .e s

/-- 84: `ADD A,H` (rule R123). -/
def execAddAH (s : State) : Out State := aluReg .add .h s

/-- 85: `ADD A,L` (rule R123). -/
def execAddAL (s : State) : Out State := aluReg .add .l s

/-- 86: `ADD A,[HL]` (rule R124). -/
def execAddAAtHl (s : State) : Out State := aluAtHl .add s

/-- 87: `ADD A,A` (rule R123). -/
def execAddAA (s : State) : Out State := aluReg .add .a s

/-- 88: `ADC A,B` (rule R126). -/
def execAdcAB (s : State) : Out State := aluReg .adc .b s

/-- 89: `ADC A,C` (rule R126). -/
def execAdcAC (s : State) : Out State := aluReg .adc .c s

/-- 8A: `ADC A,D` (rule R126). -/
def execAdcAD (s : State) : Out State := aluReg .adc .d s

/-- 8B: `ADC A,E` (rule R126). -/
def execAdcAE (s : State) : Out State := aluReg .adc .e s

/-- 8C: `ADC A,H` (rule R126). -/
def execAdcAH (s : State) : Out State := aluReg .adc .h s

/-- 8D: `ADC A,L` (rule R126). -/
def execAdcAL (s : State) : Out State := aluReg .adc .l s

/-- 8E: `ADC A,[HL]` (rule R127). -/
def execAdcAAtHl (s : State) : Out State := aluAtHl .adc s

/-- 8F: `ADC A,A` (rule R126). -/
def execAdcAA (s : State) : Out State := aluReg .adc .a s

/-- 90: `SUB A,B` (rule R129). -/
def execSubAB (s : State) : Out State := aluReg .sub .b s

/-- 91: `SUB A,C` (rule R129). -/
def execSubAC (s : State) : Out State := aluReg .sub .c s

/-- 92: `SUB A,D` (rule R129). -/
def execSubAD (s : State) : Out State := aluReg .sub .d s

/-- 93: `SUB A,E` (rule R129). -/
def execSubAE (s : State) : Out State := aluReg .sub .e s

/-- 94: `SUB A,H` (rule R129). -/
def execSubAH (s : State) : Out State := aluReg .sub .h s

/-- 95: `SUB A,L` (rule R129). -/
def execSubAL (s : State) : Out State := aluReg .sub .l s

/-- 96: `SUB A,[HL]` (rule R130). -/
def execSubAAtHl (s : State) : Out State := aluAtHl .sub s

/-- 97: `SUB A,A` (rule R129). -/
def execSubAA (s : State) : Out State := aluReg .sub .a s

/-- 98: `SBC A,B` (rule R132). -/
def execSbcAB (s : State) : Out State := aluReg .sbc .b s

/-- 99: `SBC A,C` (rule R132). -/
def execSbcAC (s : State) : Out State := aluReg .sbc .c s

/-- 9A: `SBC A,D` (rule R132). -/
def execSbcAD (s : State) : Out State := aluReg .sbc .d s

/-- 9B: `SBC A,E` (rule R132). -/
def execSbcAE (s : State) : Out State := aluReg .sbc .e s

/-- 9C: `SBC A,H` (rule R132). -/
def execSbcAH (s : State) : Out State := aluReg .sbc .h s

/-- 9D: `SBC A,L` (rule R132). -/
def execSbcAL (s : State) : Out State := aluReg .sbc .l s

/-- 9E: `SBC A,[HL]` (rule R133). -/
def execSbcAAtHl (s : State) : Out State := aluAtHl .sbc s

/-- 9F: `SBC A,A` (rule R132). -/
def execSbcAA (s : State) : Out State := aluReg .sbc .a s

/-- A0: `AND A,B` (rule R135). -/
def execAndAB (s : State) : Out State := aluReg .and .b s

/-- A1: `AND A,C` (rule R135). -/
def execAndAC (s : State) : Out State := aluReg .and .c s

/-- A2: `AND A,D` (rule R135). -/
def execAndAD (s : State) : Out State := aluReg .and .d s

/-- A3: `AND A,E` (rule R135). -/
def execAndAE (s : State) : Out State := aluReg .and .e s

/-- A4: `AND A,H` (rule R135). -/
def execAndAH (s : State) : Out State := aluReg .and .h s

/-- A5: `AND A,L` (rule R135). -/
def execAndAL (s : State) : Out State := aluReg .and .l s

/-- A6: `AND A,[HL]` (rule R136). -/
def execAndAAtHl (s : State) : Out State := aluAtHl .and s

/-- A7: `AND A,A` (rule R135). -/
def execAndAA (s : State) : Out State := aluReg .and .a s

/-- A8: `XOR A,B` (rule R138). -/
def execXorAB (s : State) : Out State := aluReg .xor .b s

/-- A9: `XOR A,C` (rule R138). -/
def execXorAC (s : State) : Out State := aluReg .xor .c s

/-- AA: `XOR A,D` (rule R138). -/
def execXorAD (s : State) : Out State := aluReg .xor .d s

/-- AB: `XOR A,E` (rule R138). -/
def execXorAE (s : State) : Out State := aluReg .xor .e s

/-- AC: `XOR A,H` (rule R138). -/
def execXorAH (s : State) : Out State := aluReg .xor .h s

/-- AD: `XOR A,L` (rule R138). -/
def execXorAL (s : State) : Out State := aluReg .xor .l s

/-- AE: `XOR A,[HL]` (rule R139). -/
def execXorAAtHl (s : State) : Out State := aluAtHl .xor s

/-- AF: `XOR A,A` (rule R138). -/
def execXorAA (s : State) : Out State := aluReg .xor .a s

/-- B0: `OR A,B` (rule R141). -/
def execOrAB (s : State) : Out State := aluReg .or .b s

/-- B1: `OR A,C` (rule R141). -/
def execOrAC (s : State) : Out State := aluReg .or .c s

/-- B2: `OR A,D` (rule R141). -/
def execOrAD (s : State) : Out State := aluReg .or .d s

/-- B3: `OR A,E` (rule R141). -/
def execOrAE (s : State) : Out State := aluReg .or .e s

/-- B4: `OR A,H` (rule R141). -/
def execOrAH (s : State) : Out State := aluReg .or .h s

/-- B5: `OR A,L` (rule R141). -/
def execOrAL (s : State) : Out State := aluReg .or .l s

/-- B6: `OR A,[HL]` (rule R142). -/
def execOrAAtHl (s : State) : Out State := aluAtHl .or s

/-- B7: `OR A,A` (rule R141). -/
def execOrAA (s : State) : Out State := aluReg .or .a s

/-- B8: `CP A,B` (rule R144). -/
def execCpAB (s : State) : Out State := aluReg .cp .b s

/-- B9: `CP A,C` (rule R144). -/
def execCpAC (s : State) : Out State := aluReg .cp .c s

/-- BA: `CP A,D` (rule R144). -/
def execCpAD (s : State) : Out State := aluReg .cp .d s

/-- BB: `CP A,E` (rule R144). -/
def execCpAE (s : State) : Out State := aluReg .cp .e s

/-- BC: `CP A,H` (rule R144). -/
def execCpAH (s : State) : Out State := aluReg .cp .h s

/-- BD: `CP A,L` (rule R144). -/
def execCpAL (s : State) : Out State := aluReg .cp .l s

/-- BE: `CP A,[HL]` (rule R145). -/
def execCpAAtHl (s : State) : Out State := aluAtHl .cp s

/-- BF: `CP A,A` (rule R144). -/
def execCpAA (s : State) : Out State := aluReg .cp .a s

/-- C6: `ADD A,n8` (rule R125). -/
def execAddAN8 (n : Byte) (s : State) : Out State := aluImm .add n s

/-- CE: `ADC A,n8` (rule R128). -/
def execAdcAN8 (n : Byte) (s : State) : Out State := aluImm .adc n s

/-- D6: `SUB A,n8` (rule R131). -/
def execSubAN8 (n : Byte) (s : State) : Out State := aluImm .sub n s

/-- DE: `SBC A,n8` (rule R134). -/
def execSbcAN8 (n : Byte) (s : State) : Out State := aluImm .sbc n s

/-- E6: `AND A,n8` (rule R137). -/
def execAndAN8 (n : Byte) (s : State) : Out State := aluImm .and n s

/-- EE: `XOR A,n8` (rule R140). -/
def execXorAN8 (n : Byte) (s : State) : Out State := aluImm .xor n s

/-- F6: `OR A,n8` (rule R143). -/
def execOrAN8 (n : Byte) (s : State) : Out State := aluImm .or n s

/-- FE: `CP A,n8` (rule R146). -/
def execCpAN8 (n : Byte) (s : State) : Out State := aluImm .cp n s

end Sys2Proof.Machine
end

