-- ==== Sys2Proof/Machine/BitOps.lean ====
section
/-! DEFINITION. BIT, RES and SET (45_rotate_shift_bit.md, rules R181 to R186). -/

namespace Sys2Proof.Machine

/-- `BIT b,r8` (rule R181). -/
def bitReg (b : Fin 8) (r : Reg8) (s : State) : Out State :=
  runRule 2 8 (fun t => t.putZNH (!(t.reg r).getLsbD b.val) false true) s

/-- `BIT b,[HL]` (rule R182): no write. -/
def bitAtHl (b : Fin 8) (s : State) : Out State :=
  runRule 2 12 (fun t => t.putZNH (!(t.readU8 t.hl).getLsbD b.val) false true) s

/-- `RES b,r8` (rule R183). -/
def resReg (b : Fin 8) (r : Reg8) (s : State) : Out State :=
  runRule 2 8 (fun t => t.putReg r (clearBit b (t.reg r))) s

/-- `RES b,[HL]` (rule R184): the write always happens. -/
def resAtHl (b : Fin 8) (s : State) : Out State :=
  runRule 2 16 (fun t => t.writeU8 t.hl (clearBit b (t.readU8 t.hl))) s

/-- `SET b,r8` (rule R185). -/
def setReg (b : Fin 8) (r : Reg8) (s : State) : Out State :=
  runRule 2 8 (fun t => t.putReg r (setBit b (t.reg r))) s

/-- `SET b,[HL]` (rule R186): the write always happens. -/
def setAtHl (b : Fin 8) (s : State) : Out State :=
  runRule 2 16 (fun t => t.writeU8 t.hl (setBit b (t.readU8 t.hl))) s

/-- CB 40: `BIT 0,B` (rule R181). -/
def execBit0B (s : State) : Out State := bitReg 0 .b s

/-- CB 41: `BIT 0,C` (rule R181). -/
def execBit0C (s : State) : Out State := bitReg 0 .c s

/-- CB 42: `BIT 0,D` (rule R181). -/
def execBit0D (s : State) : Out State := bitReg 0 .d s

/-- CB 43: `BIT 0,E` (rule R181). -/
def execBit0E (s : State) : Out State := bitReg 0 .e s

/-- CB 44: `BIT 0,H` (rule R181). -/
def execBit0H (s : State) : Out State := bitReg 0 .h s

/-- CB 45: `BIT 0,L` (rule R181). -/
def execBit0L (s : State) : Out State := bitReg 0 .l s

/-- CB 46: `BIT 0,[HL]` (rule R182). -/
def execBit0AtHl (s : State) : Out State := bitAtHl 0 s

/-- CB 47: `BIT 0,A` (rule R181). -/
def execBit0A (s : State) : Out State := bitReg 0 .a s

/-- CB 48: `BIT 1,B` (rule R181). -/
def execBit1B (s : State) : Out State := bitReg 1 .b s

/-- CB 49: `BIT 1,C` (rule R181). -/
def execBit1C (s : State) : Out State := bitReg 1 .c s

/-- CB 4A: `BIT 1,D` (rule R181). -/
def execBit1D (s : State) : Out State := bitReg 1 .d s

/-- CB 4B: `BIT 1,E` (rule R181). -/
def execBit1E (s : State) : Out State := bitReg 1 .e s

/-- CB 4C: `BIT 1,H` (rule R181). -/
def execBit1H (s : State) : Out State := bitReg 1 .h s

/-- CB 4D: `BIT 1,L` (rule R181). -/
def execBit1L (s : State) : Out State := bitReg 1 .l s

/-- CB 4E: `BIT 1,[HL]` (rule R182). -/
def execBit1AtHl (s : State) : Out State := bitAtHl 1 s

/-- CB 4F: `BIT 1,A` (rule R181). -/
def execBit1A (s : State) : Out State := bitReg 1 .a s

/-- CB 50: `BIT 2,B` (rule R181). -/
def execBit2B (s : State) : Out State := bitReg 2 .b s

/-- CB 51: `BIT 2,C` (rule R181). -/
def execBit2C (s : State) : Out State := bitReg 2 .c s

/-- CB 52: `BIT 2,D` (rule R181). -/
def execBit2D (s : State) : Out State := bitReg 2 .d s

/-- CB 53: `BIT 2,E` (rule R181). -/
def execBit2E (s : State) : Out State := bitReg 2 .e s

/-- CB 54: `BIT 2,H` (rule R181). -/
def execBit2H (s : State) : Out State := bitReg 2 .h s

/-- CB 55: `BIT 2,L` (rule R181). -/
def execBit2L (s : State) : Out State := bitReg 2 .l s

/-- CB 56: `BIT 2,[HL]` (rule R182). -/
def execBit2AtHl (s : State) : Out State := bitAtHl 2 s

/-- CB 57: `BIT 2,A` (rule R181). -/
def execBit2A (s : State) : Out State := bitReg 2 .a s

/-- CB 58: `BIT 3,B` (rule R181). -/
def execBit3B (s : State) : Out State := bitReg 3 .b s

/-- CB 59: `BIT 3,C` (rule R181). -/
def execBit3C (s : State) : Out State := bitReg 3 .c s

/-- CB 5A: `BIT 3,D` (rule R181). -/
def execBit3D (s : State) : Out State := bitReg 3 .d s

/-- CB 5B: `BIT 3,E` (rule R181). -/
def execBit3E (s : State) : Out State := bitReg 3 .e s

/-- CB 5C: `BIT 3,H` (rule R181). -/
def execBit3H (s : State) : Out State := bitReg 3 .h s

/-- CB 5D: `BIT 3,L` (rule R181). -/
def execBit3L (s : State) : Out State := bitReg 3 .l s

/-- CB 5E: `BIT 3,[HL]` (rule R182). -/
def execBit3AtHl (s : State) : Out State := bitAtHl 3 s

/-- CB 5F: `BIT 3,A` (rule R181). -/
def execBit3A (s : State) : Out State := bitReg 3 .a s

/-- CB 60: `BIT 4,B` (rule R181). -/
def execBit4B (s : State) : Out State := bitReg 4 .b s

/-- CB 61: `BIT 4,C` (rule R181). -/
def execBit4C (s : State) : Out State := bitReg 4 .c s

/-- CB 62: `BIT 4,D` (rule R181). -/
def execBit4D (s : State) : Out State := bitReg 4 .d s

/-- CB 63: `BIT 4,E` (rule R181). -/
def execBit4E (s : State) : Out State := bitReg 4 .e s

/-- CB 64: `BIT 4,H` (rule R181). -/
def execBit4H (s : State) : Out State := bitReg 4 .h s

/-- CB 65: `BIT 4,L` (rule R181). -/
def execBit4L (s : State) : Out State := bitReg 4 .l s

/-- CB 66: `BIT 4,[HL]` (rule R182). -/
def execBit4AtHl (s : State) : Out State := bitAtHl 4 s

/-- CB 67: `BIT 4,A` (rule R181). -/
def execBit4A (s : State) : Out State := bitReg 4 .a s

/-- CB 68: `BIT 5,B` (rule R181). -/
def execBit5B (s : State) : Out State := bitReg 5 .b s

/-- CB 69: `BIT 5,C` (rule R181). -/
def execBit5C (s : State) : Out State := bitReg 5 .c s

/-- CB 6A: `BIT 5,D` (rule R181). -/
def execBit5D (s : State) : Out State := bitReg 5 .d s

/-- CB 6B: `BIT 5,E` (rule R181). -/
def execBit5E (s : State) : Out State := bitReg 5 .e s

/-- CB 6C: `BIT 5,H` (rule R181). -/
def execBit5H (s : State) : Out State := bitReg 5 .h s

/-- CB 6D: `BIT 5,L` (rule R181). -/
def execBit5L (s : State) : Out State := bitReg 5 .l s

/-- CB 6E: `BIT 5,[HL]` (rule R182). -/
def execBit5AtHl (s : State) : Out State := bitAtHl 5 s

/-- CB 6F: `BIT 5,A` (rule R181). -/
def execBit5A (s : State) : Out State := bitReg 5 .a s

/-- CB 70: `BIT 6,B` (rule R181). -/
def execBit6B (s : State) : Out State := bitReg 6 .b s

/-- CB 71: `BIT 6,C` (rule R181). -/
def execBit6C (s : State) : Out State := bitReg 6 .c s

/-- CB 72: `BIT 6,D` (rule R181). -/
def execBit6D (s : State) : Out State := bitReg 6 .d s

/-- CB 73: `BIT 6,E` (rule R181). -/
def execBit6E (s : State) : Out State := bitReg 6 .e s

/-- CB 74: `BIT 6,H` (rule R181). -/
def execBit6H (s : State) : Out State := bitReg 6 .h s

/-- CB 75: `BIT 6,L` (rule R181). -/
def execBit6L (s : State) : Out State := bitReg 6 .l s

/-- CB 76: `BIT 6,[HL]` (rule R182). -/
def execBit6AtHl (s : State) : Out State := bitAtHl 6 s

/-- CB 77: `BIT 6,A` (rule R181). -/
def execBit6A (s : State) : Out State := bitReg 6 .a s

/-- CB 78: `BIT 7,B` (rule R181). -/
def execBit7B (s : State) : Out State := bitReg 7 .b s

/-- CB 79: `BIT 7,C` (rule R181). -/
def execBit7C (s : State) : Out State := bitReg 7 .c s

/-- CB 7A: `BIT 7,D` (rule R181). -/
def execBit7D (s : State) : Out State := bitReg 7 .d s

/-- CB 7B: `BIT 7,E` (rule R181). -/
def execBit7E (s : State) : Out State := bitReg 7 .e s

/-- CB 7C: `BIT 7,H` (rule R181). -/
def execBit7H (s : State) : Out State := bitReg 7 .h s

/-- CB 7D: `BIT 7,L` (rule R181). -/
def execBit7L (s : State) : Out State := bitReg 7 .l s

/-- CB 7E: `BIT 7,[HL]` (rule R182). -/
def execBit7AtHl (s : State) : Out State := bitAtHl 7 s

/-- CB 7F: `BIT 7,A` (rule R181). -/
def execBit7A (s : State) : Out State := bitReg 7 .a s

/-- CB 80: `RES 0,B` (rule R183). -/
def execRes0B (s : State) : Out State := resReg 0 .b s

/-- CB 81: `RES 0,C` (rule R183). -/
def execRes0C (s : State) : Out State := resReg 0 .c s

/-- CB 82: `RES 0,D` (rule R183). -/
def execRes0D (s : State) : Out State := resReg 0 .d s

/-- CB 83: `RES 0,E` (rule R183). -/
def execRes0E (s : State) : Out State := resReg 0 .e s

/-- CB 84: `RES 0,H` (rule R183). -/
def execRes0H (s : State) : Out State := resReg 0 .h s

/-- CB 85: `RES 0,L` (rule R183). -/
def execRes0L (s : State) : Out State := resReg 0 .l s

/-- CB 86: `RES 0,[HL]` (rule R184). -/
def execRes0AtHl (s : State) : Out State := resAtHl 0 s

/-- CB 87: `RES 0,A` (rule R183). -/
def execRes0A (s : State) : Out State := resReg 0 .a s

/-- CB 88: `RES 1,B` (rule R183). -/
def execRes1B (s : State) : Out State := resReg 1 .b s

/-- CB 89: `RES 1,C` (rule R183). -/
def execRes1C (s : State) : Out State := resReg 1 .c s

/-- CB 8A: `RES 1,D` (rule R183). -/
def execRes1D (s : State) : Out State := resReg 1 .d s

/-- CB 8B: `RES 1,E` (rule R183). -/
def execRes1E (s : State) : Out State := resReg 1 .e s

/-- CB 8C: `RES 1,H` (rule R183). -/
def execRes1H (s : State) : Out State := resReg 1 .h s

/-- CB 8D: `RES 1,L` (rule R183). -/
def execRes1L (s : State) : Out State := resReg 1 .l s

/-- CB 8E: `RES 1,[HL]` (rule R184). -/
def execRes1AtHl (s : State) : Out State := resAtHl 1 s

/-- CB 8F: `RES 1,A` (rule R183). -/
def execRes1A (s : State) : Out State := resReg 1 .a s

/-- CB 90: `RES 2,B` (rule R183). -/
def execRes2B (s : State) : Out State := resReg 2 .b s

/-- CB 91: `RES 2,C` (rule R183). -/
def execRes2C (s : State) : Out State := resReg 2 .c s

/-- CB 92: `RES 2,D` (rule R183). -/
def execRes2D (s : State) : Out State := resReg 2 .d s

/-- CB 93: `RES 2,E` (rule R183). -/
def execRes2E (s : State) : Out State := resReg 2 .e s

/-- CB 94: `RES 2,H` (rule R183). -/
def execRes2H (s : State) : Out State := resReg 2 .h s

/-- CB 95: `RES 2,L` (rule R183). -/
def execRes2L (s : State) : Out State := resReg 2 .l s

/-- CB 96: `RES 2,[HL]` (rule R184). -/
def execRes2AtHl (s : State) : Out State := resAtHl 2 s

/-- CB 97: `RES 2,A` (rule R183). -/
def execRes2A (s : State) : Out State := resReg 2 .a s

/-- CB 98: `RES 3,B` (rule R183). -/
def execRes3B (s : State) : Out State := resReg 3 .b s

/-- CB 99: `RES 3,C` (rule R183). -/
def execRes3C (s : State) : Out State := resReg 3 .c s

/-- CB 9A: `RES 3,D` (rule R183). -/
def execRes3D (s : State) : Out State := resReg 3 .d s

/-- CB 9B: `RES 3,E` (rule R183). -/
def execRes3E (s : State) : Out State := resReg 3 .e s

/-- CB 9C: `RES 3,H` (rule R183). -/
def execRes3H (s : State) : Out State := resReg 3 .h s

/-- CB 9D: `RES 3,L` (rule R183). -/
def execRes3L (s : State) : Out State := resReg 3 .l s

/-- CB 9E: `RES 3,[HL]` (rule R184). -/
def execRes3AtHl (s : State) : Out State := resAtHl 3 s

/-- CB 9F: `RES 3,A` (rule R183). -/
def execRes3A (s : State) : Out State := resReg 3 .a s

/-- CB A0: `RES 4,B` (rule R183). -/
def execRes4B (s : State) : Out State := resReg 4 .b s

/-- CB A1: `RES 4,C` (rule R183). -/
def execRes4C (s : State) : Out State := resReg 4 .c s

/-- CB A2: `RES 4,D` (rule R183). -/
def execRes4D (s : State) : Out State := resReg 4 .d s

/-- CB A3: `RES 4,E` (rule R183). -/
def execRes4E (s : State) : Out State := resReg 4 .e s

/-- CB A4: `RES 4,H` (rule R183). -/
def execRes4H (s : State) : Out State := resReg 4 .h s

/-- CB A5: `RES 4,L` (rule R183). -/
def execRes4L (s : State) : Out State := resReg 4 .l s

/-- CB A6: `RES 4,[HL]` (rule R184). -/
def execRes4AtHl (s : State) : Out State := resAtHl 4 s

/-- CB A7: `RES 4,A` (rule R183). -/
def execRes4A (s : State) : Out State := resReg 4 .a s

/-- CB A8: `RES 5,B` (rule R183). -/
def execRes5B (s : State) : Out State := resReg 5 .b s

/-- CB A9: `RES 5,C` (rule R183). -/
def execRes5C (s : State) : Out State := resReg 5 .c s

/-- CB AA: `RES 5,D` (rule R183). -/
def execRes5D (s : State) : Out State := resReg 5 .d s

/-- CB AB: `RES 5,E` (rule R183). -/
def execRes5E (s : State) : Out State := resReg 5 .e s

/-- CB AC: `RES 5,H` (rule R183). -/
def execRes5H (s : State) : Out State := resReg 5 .h s

/-- CB AD: `RES 5,L` (rule R183). -/
def execRes5L (s : State) : Out State := resReg 5 .l s

/-- CB AE: `RES 5,[HL]` (rule R184). -/
def execRes5AtHl (s : State) : Out State := resAtHl 5 s

/-- CB AF: `RES 5,A` (rule R183). -/
def execRes5A (s : State) : Out State := resReg 5 .a s

/-- CB B0: `RES 6,B` (rule R183). -/
def execRes6B (s : State) : Out State := resReg 6 .b s

/-- CB B1: `RES 6,C` (rule R183). -/
def execRes6C (s : State) : Out State := resReg 6 .c s

/-- CB B2: `RES 6,D` (rule R183). -/
def execRes6D (s : State) : Out State := resReg 6 .d s

/-- CB B3: `RES 6,E` (rule R183). -/
def execRes6E (s : State) : Out State := resReg 6 .e s

/-- CB B4: `RES 6,H` (rule R183). -/
def execRes6H (s : State) : Out State := resReg 6 .h s

/-- CB B5: `RES 6,L` (rule R183). -/
def execRes6L (s : State) : Out State := resReg 6 .l s

/-- CB B6: `RES 6,[HL]` (rule R184). -/
def execRes6AtHl (s : State) : Out State := resAtHl 6 s

/-- CB B7: `RES 6,A` (rule R183). -/
def execRes6A (s : State) : Out State := resReg 6 .a s

/-- CB B8: `RES 7,B` (rule R183). -/
def execRes7B (s : State) : Out State := resReg 7 .b s

/-- CB B9: `RES 7,C` (rule R183). -/
def execRes7C (s : State) : Out State := resReg 7 .c s

/-- CB BA: `RES 7,D` (rule R183). -/
def execRes7D (s : State) : Out State := resReg 7 .d s

/-- CB BB: `RES 7,E` (rule R183). -/
def execRes7E (s : State) : Out State := resReg 7 .e s

/-- CB BC: `RES 7,H` (rule R183). -/
def execRes7H (s : State) : Out State := resReg 7 .h s

/-- CB BD: `RES 7,L` (rule R183). -/
def execRes7L (s : State) : Out State := resReg 7 .l s

/-- CB BE: `RES 7,[HL]` (rule R184). -/
def execRes7AtHl (s : State) : Out State := resAtHl 7 s

/-- CB BF: `RES 7,A` (rule R183). -/
def execRes7A (s : State) : Out State := resReg 7 .a s

/-- CB C0: `SET 0,B` (rule R185). -/
def execSet0B (s : State) : Out State := setReg 0 .b s

/-- CB C1: `SET 0,C` (rule R185). -/
def execSet0C (s : State) : Out State := setReg 0 .c s

/-- CB C2: `SET 0,D` (rule R185). -/
def execSet0D (s : State) : Out State := setReg 0 .d s

/-- CB C3: `SET 0,E` (rule R185). -/
def execSet0E (s : State) : Out State := setReg 0 .e s

/-- CB C4: `SET 0,H` (rule R185). -/
def execSet0H (s : State) : Out State := setReg 0 .h s

/-- CB C5: `SET 0,L` (rule R185). -/
def execSet0L (s : State) : Out State := setReg 0 .l s

/-- CB C6: `SET 0,[HL]` (rule R186). -/
def execSet0AtHl (s : State) : Out State := setAtHl 0 s

/-- CB C7: `SET 0,A` (rule R185). -/
def execSet0A (s : State) : Out State := setReg 0 .a s

/-- CB C8: `SET 1,B` (rule R185). -/
def execSet1B (s : State) : Out State := setReg 1 .b s

/-- CB C9: `SET 1,C` (rule R185). -/
def execSet1C (s : State) : Out State := setReg 1 .c s

/-- CB CA: `SET 1,D` (rule R185). -/
def execSet1D (s : State) : Out State := setReg 1 .d s

/-- CB CB: `SET 1,E` (rule R185). -/
def execSet1E (s : State) : Out State := setReg 1 .e s

/-- CB CC: `SET 1,H` (rule R185). -/
def execSet1H (s : State) : Out State := setReg 1 .h s

/-- CB CD: `SET 1,L` (rule R185). -/
def execSet1L (s : State) : Out State := setReg 1 .l s

/-- CB CE: `SET 1,[HL]` (rule R186). -/
def execSet1AtHl (s : State) : Out State := setAtHl 1 s

/-- CB CF: `SET 1,A` (rule R185). -/
def execSet1A (s : State) : Out State := setReg 1 .a s

/-- CB D0: `SET 2,B` (rule R185). -/
def execSet2B (s : State) : Out State := setReg 2 .b s

/-- CB D1: `SET 2,C` (rule R185). -/
def execSet2C (s : State) : Out State := setReg 2 .c s

/-- CB D2: `SET 2,D` (rule R185). -/
def execSet2D (s : State) : Out State := setReg 2 .d s

/-- CB D3: `SET 2,E` (rule R185). -/
def execSet2E (s : State) : Out State := setReg 2 .e s

/-- CB D4: `SET 2,H` (rule R185). -/
def execSet2H (s : State) : Out State := setReg 2 .h s

/-- CB D5: `SET 2,L` (rule R185). -/
def execSet2L (s : State) : Out State := setReg 2 .l s

/-- CB D6: `SET 2,[HL]` (rule R186). -/
def execSet2AtHl (s : State) : Out State := setAtHl 2 s

/-- CB D7: `SET 2,A` (rule R185). -/
def execSet2A (s : State) : Out State := setReg 2 .a s

/-- CB D8: `SET 3,B` (rule R185). -/
def execSet3B (s : State) : Out State := setReg 3 .b s

/-- CB D9: `SET 3,C` (rule R185). -/
def execSet3C (s : State) : Out State := setReg 3 .c s

/-- CB DA: `SET 3,D` (rule R185). -/
def execSet3D (s : State) : Out State := setReg 3 .d s

/-- CB DB: `SET 3,E` (rule R185). -/
def execSet3E (s : State) : Out State := setReg 3 .e s

/-- CB DC: `SET 3,H` (rule R185). -/
def execSet3H (s : State) : Out State := setReg 3 .h s

/-- CB DD: `SET 3,L` (rule R185). -/
def execSet3L (s : State) : Out State := setReg 3 .l s

/-- CB DE: `SET 3,[HL]` (rule R186). -/
def execSet3AtHl (s : State) : Out State := setAtHl 3 s

/-- CB DF: `SET 3,A` (rule R185). -/
def execSet3A (s : State) : Out State := setReg 3 .a s

/-- CB E0: `SET 4,B` (rule R185). -/
def execSet4B (s : State) : Out State := setReg 4 .b s

/-- CB E1: `SET 4,C` (rule R185). -/
def execSet4C (s : State) : Out State := setReg 4 .c s

/-- CB E2: `SET 4,D` (rule R185). -/
def execSet4D (s : State) : Out State := setReg 4 .d s

/-- CB E3: `SET 4,E` (rule R185). -/
def execSet4E (s : State) : Out State := setReg 4 .e s

/-- CB E4: `SET 4,H` (rule R185). -/
def execSet4H (s : State) : Out State := setReg 4 .h s

/-- CB E5: `SET 4,L` (rule R185). -/
def execSet4L (s : State) : Out State := setReg 4 .l s

/-- CB E6: `SET 4,[HL]` (rule R186). -/
def execSet4AtHl (s : State) : Out State := setAtHl 4 s

/-- CB E7: `SET 4,A` (rule R185). -/
def execSet4A (s : State) : Out State := setReg 4 .a s

/-- CB E8: `SET 5,B` (rule R185). -/
def execSet5B (s : State) : Out State := setReg 5 .b s

/-- CB E9: `SET 5,C` (rule R185). -/
def execSet5C (s : State) : Out State := setReg 5 .c s

/-- CB EA: `SET 5,D` (rule R185). -/
def execSet5D (s : State) : Out State := setReg 5 .d s

/-- CB EB: `SET 5,E` (rule R185). -/
def execSet5E (s : State) : Out State := setReg 5 .e s

/-- CB EC: `SET 5,H` (rule R185). -/
def execSet5H (s : State) : Out State := setReg 5 .h s

/-- CB ED: `SET 5,L` (rule R185). -/
def execSet5L (s : State) : Out State := setReg 5 .l s

/-- CB EE: `SET 5,[HL]` (rule R186). -/
def execSet5AtHl (s : State) : Out State := setAtHl 5 s

/-- CB EF: `SET 5,A` (rule R185). -/
def execSet5A (s : State) : Out State := setReg 5 .a s

/-- CB F0: `SET 6,B` (rule R185). -/
def execSet6B (s : State) : Out State := setReg 6 .b s

/-- CB F1: `SET 6,C` (rule R185). -/
def execSet6C (s : State) : Out State := setReg 6 .c s

/-- CB F2: `SET 6,D` (rule R185). -/
def execSet6D (s : State) : Out State := setReg 6 .d s

/-- CB F3: `SET 6,E` (rule R185). -/
def execSet6E (s : State) : Out State := setReg 6 .e s

/-- CB F4: `SET 6,H` (rule R185). -/
def execSet6H (s : State) : Out State := setReg 6 .h s

/-- CB F5: `SET 6,L` (rule R185). -/
def execSet6L (s : State) : Out State := setReg 6 .l s

/-- CB F6: `SET 6,[HL]` (rule R186). -/
def execSet6AtHl (s : State) : Out State := setAtHl 6 s

/-- CB F7: `SET 6,A` (rule R185). -/
def execSet6A (s : State) : Out State := setReg 6 .a s

/-- CB F8: `SET 7,B` (rule R185). -/
def execSet7B (s : State) : Out State := setReg 7 .b s

/-- CB F9: `SET 7,C` (rule R185). -/
def execSet7C (s : State) : Out State := setReg 7 .c s

/-- CB FA: `SET 7,D` (rule R185). -/
def execSet7D (s : State) : Out State := setReg 7 .d s

/-- CB FB: `SET 7,E` (rule R185). -/
def execSet7E (s : State) : Out State := setReg 7 .e s

/-- CB FC: `SET 7,H` (rule R185). -/
def execSet7H (s : State) : Out State := setReg 7 .h s

/-- CB FD: `SET 7,L` (rule R185). -/
def execSet7L (s : State) : Out State := setReg 7 .l s

/-- CB FE: `SET 7,[HL]` (rule R186). -/
def execSet7AtHl (s : State) : Out State := setAtHl 7 s

/-- CB FF: `SET 7,A` (rule R185). -/
def execSet7A (s : State) : Out State := setReg 7 .a s

end Sys2Proof.Machine
end

