-- ==== Sys2Proof/Machine/ControlFlow.lean ====
section
/-! DEFINITION. Jumps, calls, restarts and returns (46_control_flow.md, rules R187 to R198). -/

namespace Sys2Proof.Machine

/-- The relative transfer of a 2-byte instruction (rule R188). -/
def State.jumpRel (s : State) (n : Byte) : State := s.jump (s.nextPc 2 + sext16 n)

/-- The call of an instruction of length `len`: `next_pc` pushed, then the transfer (rules R193, R195). -/
def State.call (s : State) (len : Nat) (target : Word) : State := (s.push16 (s.nextPc len)).jump target

/-- The return: PC popped (rule R196). -/
def State.popPc (s : State) : State := s.popped.jump s.popValue

/-- A rule that runs, with its own cycle count, only if the condition holds (rules R88, R187). -/
def State.when (s : State) (cc : Cond) (taken : Nat) (rule : State → State) : State :=
  if condHolds cc s.regs.f then (rule s).putCycles taken else s

/-- `JR cc,e8` (rule R189). -/
def jumpRelIf (cc : Cond) (n : Byte) (s : State) : Out State := runRule 2 8 (fun t => t.when cc 12 (·.jumpRel n)) s

/-- `JP cc,a16` (rule R191). -/
def jumpIf (cc : Cond) (nn : Word) (s : State) : Out State := runRule 3 12 (fun t => t.when cc 16 (·.jump nn)) s

/-- `CALL cc,a16` (rule R194). -/
def callIf (cc : Cond) (nn : Word) (s : State) : Out State := runRule 3 12 (fun t => t.when cc 24 (·.call 3 nn)) s

/-- `RET cc` (rule R197). -/
def returnIf (cc : Cond) (s : State) : Out State := runRule 1 8 (fun t => t.when cc 20 State.popPc) s

/-- `RST vec` with the vector `y * 8` (rule R195). -/
def restart (y : Fin 8) (s : State) : Out State :=
  runRule 1 16 (fun t => t.call 1 (8#16 * BitVec.ofNat 16 y.val)) s

/-- 18: `JR e8` (rule R188). -/
def execJrE8 (n : Byte) (s : State) : Out State := runRule 2 12 (fun t => t.jumpRel n) s

/-- 20: `JR NZ,e8` (rule R189). -/
def execJrNzE8 (n : Byte) (s : State) : Out State := jumpRelIf .nz n s

/-- 28: `JR Z,e8` (rule R189). -/
def execJrZE8 (n : Byte) (s : State) : Out State := jumpRelIf .z n s

/-- 30: `JR NC,e8` (rule R189). -/
def execJrNcE8 (n : Byte) (s : State) : Out State := jumpRelIf .nc n s

/-- 38: `JR C,e8` (rule R189). -/
def execJrCE8 (n : Byte) (s : State) : Out State := jumpRelIf .c n s

/-- C0: `RET NZ` (rule R197). -/
def execRetNz (s : State) : Out State := returnIf .nz s

/-- C2: `JP NZ,a16` (rule R191). -/
def execJpNzA16 (nn : Word) (s : State) : Out State := jumpIf .nz nn s

/-- C3: `JP a16` (rule R190). -/
def execJpA16 (nn : Word) (s : State) : Out State := runRule 3 16 (fun t => t.jump nn) s

/-- C4: `CALL NZ,a16` (rule R194). -/
def execCallNzA16 (nn : Word) (s : State) : Out State := callIf .nz nn s

/-- C7: `RST 0x00` (rule R195). -/
def execRst00 (s : State) : Out State := restart 0 s

/-- C8: `RET Z` (rule R197). -/
def execRetZ (s : State) : Out State := returnIf .z s

/-- C9: `RET` (rule R196). -/
def execRet (s : State) : Out State := runRule 1 16 State.popPc s

/-- CA: `JP Z,a16` (rule R191). -/
def execJpZA16 (nn : Word) (s : State) : Out State := jumpIf .z nn s

/-- CC: `CALL Z,a16` (rule R194). -/
def execCallZA16 (nn : Word) (s : State) : Out State := callIf .z nn s

/-- CD: `CALL a16` (rule R193). -/
def execCallA16 (nn : Word) (s : State) : Out State := runRule 3 24 (fun t => t.call 3 nn) s

/-- CF: `RST 0x08` (rule R195). -/
def execRst08 (s : State) : Out State := restart 1 s

/-- D0: `RET NC` (rule R197). -/
def execRetNc (s : State) : Out State := returnIf .nc s

/-- D2: `JP NC,a16` (rule R191). -/
def execJpNcA16 (nn : Word) (s : State) : Out State := jumpIf .nc nn s

/-- D4: `CALL NC,a16` (rule R194). -/
def execCallNcA16 (nn : Word) (s : State) : Out State := callIf .nc nn s

/-- D7: `RST 0x10` (rule R195). -/
def execRst10 (s : State) : Out State := restart 2 s

/-- D8: `RET C` (rule R197). -/
def execRetC (s : State) : Out State := returnIf .c s

/-- D9: `RETI` (rule R198). -/
def execReti (s : State) : Out State := runRule 1 16 State.returnInterrupt s

/-- DA: `JP C,a16` (rule R191). -/
def execJpCA16 (nn : Word) (s : State) : Out State := jumpIf .c nn s

/-- DC: `CALL C,a16` (rule R194). -/
def execCallCA16 (nn : Word) (s : State) : Out State := callIf .c nn s

/-- DF: `RST 0x18` (rule R195). -/
def execRst18 (s : State) : Out State := restart 3 s

/-- E7: `RST 0x20` (rule R195). -/
def execRst20 (s : State) : Out State := restart 4 s

/-- E9: `JP HL` (rule R192). -/
def execJpHl (s : State) : Out State := runRule 1 4 (fun t => t.jump t.hl) s

/-- EF: `RST 0x28` (rule R195). -/
def execRst28 (s : State) : Out State := restart 5 s

/-- F7: `RST 0x30` (rule R195). -/
def execRst30 (s : State) : Out State := restart 6 s

/-- FF: `RST 0x38` (rule R195). -/
def execRst38 (s : State) : Out State := restart 7 s

end Sys2Proof.Machine
end

