-- ==== Sys2Proof/Machine/Loads16.lean ====
section
/-! DEFINITION. The 16-bit loads and the stack instructions (42_loads_16bit.md, rules R115 to R121). -/

namespace Sys2Proof.Machine

/-- `LD r16,n16` (rule R115). -/
def ldPairImm (p : Reg16) (nn : Word) (s : State) : Out State := runRule 3 12 (fun t => t.putPair p nn) s

/-- `PUSH r16`: the value is read before SP moves (rule R119). -/
def pushPair (p : RegStk) (s : State) : Out State := runRule 1 16 (fun t => t.push16 (t.stk p)) s

/-- `POP r16` (rules R120, R121). -/
def popPair (p : RegStk) (s : State) : Out State := runRule 1 12 (fun t => t.popped.putStk p t.popValue) s

/-- 01: `LD BC,n16` (rule R115). -/
def execLdBcN16 (nn : Word) (s : State) : Out State := ldPairImm .bc nn s

/-- 08: `LD [a16],SP` (rule R116). -/
def execLdAtA16Sp (nn : Word) (s : State) : Out State := runRule 3 20 (fun t => t.writeU16 nn t.sp) s

/-- 11: `LD DE,n16` (rule R115). -/
def execLdDeN16 (nn : Word) (s : State) : Out State := ldPairImm .de nn s

/-- 21: `LD HL,n16` (rule R115). -/
def execLdHlN16 (nn : Word) (s : State) : Out State := ldPairImm .hl nn s

/-- 31: `LD SP,n16` (rule R115). -/
def execLdSpN16 (nn : Word) (s : State) : Out State := ldPairImm .sp nn s

/-- C1: `POP BC` (rule R120). -/
def execPopBc (s : State) : Out State := popPair .bc s

/-- C5: `PUSH BC` (rule R119). -/
def execPushBc (s : State) : Out State := pushPair .bc s

/-- D1: `POP DE` (rule R120). -/
def execPopDe (s : State) : Out State := popPair .de s

/-- D5: `PUSH DE` (rule R119). -/
def execPushDe (s : State) : Out State := pushPair .de s

/-- E1: `POP HL` (rule R120). -/
def execPopHl (s : State) : Out State := popPair .hl s

/-- E5: `PUSH HL` (rule R119). -/
def execPushHl (s : State) : Out State := pushPair .hl s

/-- F1: `POP AF` (rule R121). -/
def execPopAf (s : State) : Out State := popPair .af s

/-- F5: `PUSH AF` (rule R119). -/
def execPushAf (s : State) : Out State := pushPair .af s

/-- F8: `LD HL,SP+e8` (rule R118). -/
def execLdHlSpE8 (n : Byte) (s : State) : Out State := runRule 2 12 (fun t => t.addSpInto .hl n) s

/-- F9: `LD SP,HL` (rule R117). -/
def execLdSpHl (s : State) : Out State := runRule 1 8 (fun t => t.putPair .sp t.hl) s

end Sys2Proof.Machine
end

