-- ==== Sys2Proof/Machine/Loads8.lean ====
section
/-! DEFINITION. The 8-bit loads (41_loads_8bit.md, rules R97 to R114): what they share, then one meaning per row. -/

namespace Sys2Proof.Machine

/-- `LD r8,r8'` (rule R98). -/
def ldRegReg (dst r : Reg8) (s : State) : Out State := runRule 1 4 (fun t => t.putReg dst (t.reg r)) s

/-- `LD r8,n8` (rule R99). -/
def ldRegImm (dst : Reg8) (n : Byte) (s : State) : Out State := runRule 2 8 (fun t => t.putReg dst n) s

/-- A load of one byte from `a` into a register. -/
def loadByte (len cycles : Nat) (dst : Reg8) (a : Word) (s : State) : Out State :=
  runRule len cycles (fun t => t.putReg dst (t.readU8 a)) s

/-- A store of one byte at `a`, with the side effects of that address (rule R97). -/
def storeByte (len cycles : Nat) (a : Word) (v : Byte) (s : State) : Out State :=
  runRule len cycles (fun t => t.writeU8 a v) s

/-- `LD r8,[HL]` (rule R100). -/
def ldRegAtHl (dst : Reg8) (s : State) : Out State := loadByte 1 8 dst s.hl s

/-- `LD [HL],r8` (rule R101). -/
def ldAtHlReg (r : Reg8) (s : State) : Out State := storeByte 1 8 s.hl (s.reg r) s

/-- `LD A,[BC]`, `LD A,[DE]`, `LD A,[HL+]`, `LD A,[HL-]`: the load, then the step of HL (rules R103, R105, R106). -/
def ldAAtMem (p : RegMem) (s : State) : Out State :=
  runRule 1 8 (fun t => (t.putReg .a (t.readU8 (t.memAddr p))).memStep p) s

/-- `LD [BC],A`, `LD [DE],A`, `LD [HL+],A`, `LD [HL-],A`: the store, then the step of HL (rules R104, R107, R108). -/
def ldAtMemA (p : RegMem) (s : State) : Out State :=
  runRule 1 8 (fun t => (t.writeU8 (t.memAddr p) (t.reg .a)).memStep p) s

/-- 02: `LD [BC],A` (rule R104). -/
def execLdAtBcA (s : State) : Out State := ldAtMemA .atBc s

/-- 06: `LD B,n8` (rule R99). -/
def execLdBN8 (n : Byte) (s : State) : Out State := ldRegImm .b n s

/-- 0A: `LD A,[BC]` (rule R103). -/
def execLdAAtBc (s : State) : Out State := ldAAtMem .atBc s

/-- 0E: `LD C,n8` (rule R99). -/
def execLdCN8 (n : Byte) (s : State) : Out State := ldRegImm .c n s

/-- 12: `LD [DE],A` (rule R104). -/
def execLdAtDeA (s : State) : Out State := ldAtMemA .atDe s

/-- 16: `LD D,n8` (rule R99). -/
def execLdDN8 (n : Byte) (s : State) : Out State := ldRegImm .d n s

/-- 1A: `LD A,[DE]` (rule R103). -/
def execLdAAtDe (s : State) : Out State := ldAAtMem .atDe s

/-- 1E: `LD E,n8` (rule R99). -/
def execLdEN8 (n : Byte) (s : State) : Out State := ldRegImm .e n s

/-- 22: `LD [HL+],A` (rule R107). -/
def execLdAtHlIncA (s : State) : Out State := ldAtMemA .atHlInc s

/-- 26: `LD H,n8` (rule R99). -/
def execLdHN8 (n : Byte) (s : State) : Out State := ldRegImm .h n s

/-- 2A: `LD A,[HL+]` (rule R105). -/
def execLdAAtHlInc (s : State) : Out State := ldAAtMem .atHlInc s

/-- 2E: `LD L,n8` (rule R99). -/
def execLdLN8 (n : Byte) (s : State) : Out State := ldRegImm .l n s

/-- 32: `LD [HL-],A` (rule R108). -/
def execLdAtHlDecA (s : State) : Out State := ldAtMemA .atHlDec s

/-- 36: `LD [HL],n8` (rule R102). -/
def execLdAtHlN8 (n : Byte) (s : State) : Out State := storeByte 2 12 s.hl n s

/-- 3A: `LD A,[HL-]` (rule R106). -/
def execLdAAtHlDec (s : State) : Out State := ldAAtMem .atHlDec s

/-- 3E: `LD A,n8` (rule R99). -/
def execLdAN8 (n : Byte) (s : State) : Out State := ldRegImm .a n s

/-- 40: `LD B,B` (rule R98). -/
def execLdBB (s : State) : Out State := ldRegReg .b .b s

/-- 41: `LD B,C` (rule R98). -/
def execLdBC (s : State) : Out State := ldRegReg .b .c s

/-- 42: `LD B,D` (rule R98). -/
def execLdBD (s : State) : Out State := ldRegReg .b .d s

/-- 43: `LD B,E` (rule R98). -/
def execLdBE (s : State) : Out State := ldRegReg .b .e s

/-- 44: `LD B,H` (rule R98). -/
def execLdBH (s : State) : Out State := ldRegReg .b .h s

/-- 45: `LD B,L` (rule R98). -/
def execLdBL (s : State) : Out State := ldRegReg .b .l s

/-- 46: `LD B,[HL]` (rule R100). -/
def execLdBAtHl (s : State) : Out State := ldRegAtHl .b s

/-- 47: `LD B,A` (rule R98). -/
def execLdBA (s : State) : Out State := ldRegReg .b .a s

/-- 48: `LD C,B` (rule R98). -/
def execLdCB (s : State) : Out State := ldRegReg .c .b s

/-- 49: `LD C,C` (rule R98). -/
def execLdCC (s : State) : Out State := ldRegReg .c .c s

/-- 4A: `LD C,D` (rule R98). -/
def execLdCD (s : State) : Out State := ldRegReg .c .d s

/-- 4B: `LD C,E` (rule R98). -/
def execLdCE (s : State) : Out State := ldRegReg .c .e s

/-- 4C: `LD C,H` (rule R98). -/
def execLdCH (s : State) : Out State := ldRegReg .c .h s

/-- 4D: `LD C,L` (rule R98). -/
def execLdCL (s : State) : Out State := ldRegReg .c .l s

/-- 4E: `LD C,[HL]` (rule R100). -/
def execLdCAtHl (s : State) : Out State := ldRegAtHl .c s

/-- 4F: `LD C,A` (rule R98). -/
def execLdCA (s : State) : Out State := ldRegReg .c .a s

/-- 50: `LD D,B` (rule R98). -/
def execLdDB (s : State) : Out State := ldRegReg .d .b s

/-- 51: `LD D,C` (rule R98). -/
def execLdDC (s : State) : Out State := ldRegReg .d .c s

/-- 52: `LD D,D` (rule R98). -/
def execLdDD (s : State) : Out State := ldRegReg .d .d s

/-- 53: `LD D,E` (rule R98). -/
def execLdDE (s : State) : Out State := ldRegReg .d .e s

/-- 54: `LD D,H` (rule R98). -/
def execLdDH (s : State) : Out State := ldRegReg .d .h s

/-- 55: `LD D,L` (rule R98). -/
def execLdDL (s : State) : Out State := ldRegReg .d .l s

/-- 56: `LD D,[HL]` (rule R100). -/
def execLdDAtHl (s : State) : Out State := ldRegAtHl .d s

/-- 57: `LD D,A` (rule R98). -/
def execLdDA (s : State) : Out State := ldRegReg .d .a s

/-- 58: `LD E,B` (rule R98). -/
def execLdEB (s : State) : Out State := ldRegReg .e .b s

/-- 59: `LD E,C` (rule R98). -/
def execLdEC (s : State) : Out State := ldRegReg .e .c s

/-- 5A: `LD E,D` (rule R98). -/
def execLdED (s : State) : Out State := ldRegReg .e .d s

/-- 5B: `LD E,E` (rule R98). -/
def execLdEE (s : State) : Out State := ldRegReg .e .e s

/-- 5C: `LD E,H` (rule R98). -/
def execLdEH (s : State) : Out State := ldRegReg .e .h s

/-- 5D: `LD E,L` (rule R98). -/
def execLdEL (s : State) : Out State := ldRegReg .e .l s

/-- 5E: `LD E,[HL]` (rule R100). -/
def execLdEAtHl (s : State) : Out State := ldRegAtHl .e s

/-- 5F: `LD E,A` (rule R98). -/
def execLdEA (s : State) : Out State := ldRegReg .e .a s

/-- 60: `LD H,B` (rule R98). -/
def execLdHB (s : State) : Out State := ldRegReg .h .b s

/-- 61: `LD H,C` (rule R98). -/
def execLdHC (s : State) : Out State := ldRegReg .h .c s

/-- 62: `LD H,D` (rule R98). -/
def execLdHD (s : State) : Out State := ldRegReg .h .d s

/-- 63: `LD H,E` (rule R98). -/
def execLdHE (s : State) : Out State := ldRegReg .h .e s

/-- 64: `LD H,H` (rule R98). -/
def execLdHH (s : State) : Out State := ldRegReg .h .h s

/-- 65: `LD H,L` (rule R98). -/
def execLdHL (s : State) : Out State := ldRegReg .h .l s

/-- 66: `LD H,[HL]` (rule R100). -/
def execLdHAtHl (s : State) : Out State := ldRegAtHl .h s

/-- 67: `LD H,A` (rule R98). -/
def execLdHA (s : State) : Out State := ldRegReg .h .a s

/-- 68: `LD L,B` (rule R98). -/
def execLdLB (s : State) : Out State := ldRegReg .l .b s

/-- 69: `LD L,C` (rule R98). -/
def execLdLC (s : State) : Out State := ldRegReg .l .c s

/-- 6A: `LD L,D` (rule R98). -/
def execLdLD (s : State) : Out State := ldRegReg .l .d s

/-- 6B: `LD L,E` (rule R98). -/
def execLdLE (s : State) : Out State := ldRegReg .l .e s

/-- 6C: `LD L,H` (rule R98). -/
def execLdLH (s : State) : Out State := ldRegReg .l .h s

/-- 6D: `LD L,L` (rule R98). -/
def execLdLL (s : State) : Out State := ldRegReg .l .l s

/-- 6E: `LD L,[HL]` (rule R100). -/
def execLdLAtHl (s : State) : Out State := ldRegAtHl .l s

/-- 6F: `LD L,A` (rule R98). -/
def execLdLA (s : State) : Out State := ldRegReg .l .a s

/-- 70: `LD [HL],B` (rule R101). -/
def execLdAtHlB (s : State) : Out State := ldAtHlReg .b s

/-- 71: `LD [HL],C` (rule R101). -/
def execLdAtHlC (s : State) : Out State := ldAtHlReg .c s

/-- 72: `LD [HL],D` (rule R101). -/
def execLdAtHlD (s : State) : Out State := ldAtHlReg .d s

/-- 73: `LD [HL],E` (rule R101). -/
def execLdAtHlE (s : State) : Out State := ldAtHlReg .e s

/-- 74: `LD [HL],H` (rule R101). -/
def execLdAtHlH (s : State) : Out State := ldAtHlReg .h s

/-- 75: `LD [HL],L` (rule R101). -/
def execLdAtHlL (s : State) : Out State := ldAtHlReg .l s

/-- 77: `LD [HL],A` (rule R101). -/
def execLdAtHlA (s : State) : Out State := ldAtHlReg .a s

/-- 78: `LD A,B` (rule R98). -/
def execLdAB (s : State) : Out State := ldRegReg .a .b s

/-- 79: `LD A,C` (rule R98). -/
def execLdAC (s : State) : Out State := ldRegReg .a .c s

/-- 7A: `LD A,D` (rule R98). -/
def execLdAD (s : State) : Out State := ldRegReg .a .d s

/-- 7B: `LD A,E` (rule R98). -/
def execLdAE (s : State) : Out State := ldRegReg .a .e s

/-- 7C: `LD A,H` (rule R98). -/
def execLdAH (s : State) : Out State := ldRegReg .a .h s

/-- 7D: `LD A,L` (rule R98). -/
def execLdAL (s : State) : Out State := ldRegReg .a .l s

/-- 7E: `LD A,[HL]` (rule R100). -/
def execLdAAtHl (s : State) : Out State := ldRegAtHl .a s

/-- 7F: `LD A,A` (rule R98). -/
def execLdAA (s : State) : Out State := ldRegReg .a .a s

/-- E0: `LDH [a8],A` (rule R112). -/
def execLdhAtA8A (n : Byte) (s : State) : Out State := storeByte 2 12 (highPage n) (s.reg .a) s

/-- E2: `LD [C],A` (rule R114). -/
def execLdAtCA (s : State) : Out State := storeByte 1 8 s.ioAddr (s.reg .a) s

/-- EA: `LD [a16],A` (rule R110). -/
def execLdAtA16A (nn : Word) (s : State) : Out State := storeByte 3 16 nn (s.reg .a) s

/-- F0: `LDH A,[a8]` (rule R111). -/
def execLdhAAtA8 (n : Byte) (s : State) : Out State := loadByte 2 12 .a (highPage n) s

/-- F2: `LD A,[C]` (rule R113). -/
def execLdAAtC (s : State) : Out State := loadByte 1 8 .a s.ioAddr s

/-- FA: `LD A,[a16]` (rule R109). -/
def execLdAAtA16 (nn : Word) (s : State) : Out State := loadByte 3 16 .a nn s

end Sys2Proof.Machine
end

