-- ==== Sys2Proof/Machine/Rotate.lean ====
section
/-! DEFINITION. The rotates, shifts and SWAP (45_rotate_shift_bit.md, rules R159 to R180). -/

namespace Sys2Proof.Machine

/-- `accZ()`: what an accumulator rotate leaves in Z (rule R160). -/
def State.accZ (s : State) : Bool :=
  match s.config.accRotateZ with
  | .preserve => flagZ s.regs.f
  | .clear => false

/-- `RLCA`, `RRCA`, `RLA`, `RRA` (rules R161 to R164). -/
def accRotate (op : RotOp) (s : State) : Out State :=
  runRule 1 4 (fun t =>
    let (r, c) := rotEval op (t.reg .a) (flagC t.regs.f)
    (t.putReg .a r).putFlags t.accZ false false c) s

/-- A prefixed rotate or shift of a register (rule R159). -/
def rotReg (op : RotOp) (dst : Reg8) (s : State) : Out State :=
  runRule 2 8 (fun t =>
    let (r, c) := rotEval op (t.reg dst) (flagC t.regs.f)
    (t.putReg dst r).putFlags (decide (r = 0)) false false c) s

/-- A prefixed rotate or shift of the byte at HL: one read, one write (rule R159). -/
def rotAtHl (op : RotOp) (s : State) : Out State :=
  runRule 2 16 (fun t =>
    let (r, c) := rotEval op (t.readU8 t.hl) (flagC t.regs.f)
    (t.writeU8 t.hl r).putFlags (decide (r = 0)) false false c) s

/-- 07: `RLCA` (rule R161). -/
def execRlca (s : State) : Out State := accRotate .rlc s

/-- 0F: `RRCA` (rule R162). -/
def execRrca (s : State) : Out State := accRotate .rrc s

/-- 17: `RLA` (rule R163). -/
def execRla (s : State) : Out State := accRotate .rl s

/-- 1F: `RRA` (rule R164). -/
def execRra (s : State) : Out State := accRotate .rr s

/-- CB 00: `RLC B` (rule R165). -/
def execRlcB (s : State) : Out State := rotReg .rlc .b s

/-- CB 01: `RLC C` (rule R165). -/
def execRlcC (s : State) : Out State := rotReg .rlc .c s

/-- CB 02: `RLC D` (rule R165). -/
def execRlcD (s : State) : Out State := rotReg .rlc .d s

/-- CB 03: `RLC E` (rule R165). -/
def execRlcE (s : State) : Out State := rotReg .rlc .e s

/-- CB 04: `RLC H` (rule R165). -/
def execRlcH (s : State) : Out State := rotReg .rlc .h s

/-- CB 05: `RLC L` (rule R165). -/
def execRlcL (s : State) : Out State := rotReg .rlc .l s

/-- CB 06: `RLC [HL]` (rule R166). -/
def execRlcAtHl (s : State) : Out State := rotAtHl .rlc s

/-- CB 07: `RLC A` (rule R165). -/
def execRlcA (s : State) : Out State := rotReg .rlc .a s

/-- CB 08: `RRC B` (rule R167). -/
def execRrcB (s : State) : Out State := rotReg .rrc .b s

/-- CB 09: `RRC C` (rule R167). -/
def execRrcC (s : State) : Out State := rotReg .rrc .c s

/-- CB 0A: `RRC D` (rule R167). -/
def execRrcD (s : State) : Out State := rotReg .rrc .d s

/-- CB 0B: `RRC E` (rule R167). -/
def execRrcE (s : State) : Out State := rotReg .rrc .e s

/-- CB 0C: `RRC H` (rule R167). -/
def execRrcH (s : State) : Out State := rotReg .rrc .h s

/-- CB 0D: `RRC L` (rule R167). -/
def execRrcL (s : State) : Out State := rotReg .rrc .l s

/-- CB 0E: `RRC [HL]` (rule R168). -/
def execRrcAtHl (s : State) : Out State := rotAtHl .rrc s

/-- CB 0F: `RRC A` (rule R167). -/
def execRrcA (s : State) : Out State := rotReg .rrc .a s

/-- CB 10: `RL B` (rule R169). -/
def execRlB (s : State) : Out State := rotReg .rl .b s

/-- CB 11: `RL C` (rule R169). -/
def execRlC (s : State) : Out State := rotReg .rl .c s

/-- CB 12: `RL D` (rule R169). -/
def execRlD (s : State) : Out State := rotReg .rl .d s

/-- CB 13: `RL E` (rule R169). -/
def execRlE (s : State) : Out State := rotReg .rl .e s

/-- CB 14: `RL H` (rule R169). -/
def execRlH (s : State) : Out State := rotReg .rl .h s

/-- CB 15: `RL L` (rule R169). -/
def execRlL (s : State) : Out State := rotReg .rl .l s

/-- CB 16: `RL [HL]` (rule R170). -/
def execRlAtHl (s : State) : Out State := rotAtHl .rl s

/-- CB 17: `RL A` (rule R169). -/
def execRlA (s : State) : Out State := rotReg .rl .a s

/-- CB 18: `RR B` (rule R171). -/
def execRrB (s : State) : Out State := rotReg .rr .b s

/-- CB 19: `RR C` (rule R171). -/
def execRrC (s : State) : Out State := rotReg .rr .c s

/-- CB 1A: `RR D` (rule R171). -/
def execRrD (s : State) : Out State := rotReg .rr .d s

/-- CB 1B: `RR E` (rule R171). -/
def execRrE (s : State) : Out State := rotReg .rr .e s

/-- CB 1C: `RR H` (rule R171). -/
def execRrH (s : State) : Out State := rotReg .rr .h s

/-- CB 1D: `RR L` (rule R171). -/
def execRrL (s : State) : Out State := rotReg .rr .l s

/-- CB 1E: `RR [HL]` (rule R172). -/
def execRrAtHl (s : State) : Out State := rotAtHl .rr s

/-- CB 1F: `RR A` (rule R171). -/
def execRrA (s : State) : Out State := rotReg .rr .a s

/-- CB 20: `SLA B` (rule R173). -/
def execSlaB (s : State) : Out State := rotReg .sla .b s

/-- CB 21: `SLA C` (rule R173). -/
def execSlaC (s : State) : Out State := rotReg .sla .c s

/-- CB 22: `SLA D` (rule R173). -/
def execSlaD (s : State) : Out State := rotReg .sla .d s

/-- CB 23: `SLA E` (rule R173). -/
def execSlaE (s : State) : Out State := rotReg .sla .e s

/-- CB 24: `SLA H` (rule R173). -/
def execSlaH (s : State) : Out State := rotReg .sla .h s

/-- CB 25: `SLA L` (rule R173). -/
def execSlaL (s : State) : Out State := rotReg .sla .l s

/-- CB 26: `SLA [HL]` (rule R174). -/
def execSlaAtHl (s : State) : Out State := rotAtHl .sla s

/-- CB 27: `SLA A` (rule R173). -/
def execSlaA (s : State) : Out State := rotReg .sla .a s

/-- CB 28: `SRA B` (rule R175). -/
def execSraB (s : State) : Out State := rotReg .sra .b s

/-- CB 29: `SRA C` (rule R175). -/
def execSraC (s : State) : Out State := rotReg .sra .c s

/-- CB 2A: `SRA D` (rule R175). -/
def execSraD (s : State) : Out State := rotReg .sra .d s

/-- CB 2B: `SRA E` (rule R175). -/
def execSraE (s : State) : Out State := rotReg .sra .e s

/-- CB 2C: `SRA H` (rule R175). -/
def execSraH (s : State) : Out State := rotReg .sra .h s

/-- CB 2D: `SRA L` (rule R175). -/
def execSraL (s : State) : Out State := rotReg .sra .l s

/-- CB 2E: `SRA [HL]` (rule R176). -/
def execSraAtHl (s : State) : Out State := rotAtHl .sra s

/-- CB 2F: `SRA A` (rule R175). -/
def execSraA (s : State) : Out State := rotReg .sra .a s

/-- CB 30: `SWAP B` (rule R177). -/
def execSwapB (s : State) : Out State := rotReg .swap .b s

/-- CB 31: `SWAP C` (rule R177). -/
def execSwapC (s : State) : Out State := rotReg .swap .c s

/-- CB 32: `SWAP D` (rule R177). -/
def execSwapD (s : State) : Out State := rotReg .swap .d s

/-- CB 33: `SWAP E` (rule R177). -/
def execSwapE (s : State) : Out State := rotReg .swap .e s

/-- CB 34: `SWAP H` (rule R177). -/
def execSwapH (s : State) : Out State := rotReg .swap .h s

/-- CB 35: `SWAP L` (rule R177). -/
def execSwapL (s : State) : Out State := rotReg .swap .l s

/-- CB 36: `SWAP [HL]` (rule R178). -/
def execSwapAtHl (s : State) : Out State := rotAtHl .swap s

/-- CB 37: `SWAP A` (rule R177). -/
def execSwapA (s : State) : Out State := rotReg .swap .a s

/-- CB 38: `SRL B` (rule R179). -/
def execSrlB (s : State) : Out State := rotReg .srl .b s

/-- CB 39: `SRL C` (rule R179). -/
def execSrlC (s : State) : Out State := rotReg .srl .c s

/-- CB 3A: `SRL D` (rule R179). -/
def execSrlD (s : State) : Out State := rotReg .srl .d s

/-- CB 3B: `SRL E` (rule R179). -/
def execSrlE (s : State) : Out State := rotReg .srl .e s

/-- CB 3C: `SRL H` (rule R179). -/
def execSrlH (s : State) : Out State := rotReg .srl .h s

/-- CB 3D: `SRL L` (rule R179). -/
def execSrlL (s : State) : Out State := rotReg .srl .l s

/-- CB 3E: `SRL [HL]` (rule R180). -/
def execSrlAtHl (s : State) : Out State := rotAtHl .srl s

/-- CB 3F: `SRL A` (rule R179). -/
def execSrlA (s : State) : Out State := rotReg .srl .a s

end Sys2Proof.Machine
end

