-- ==== Sys2Proof/WellFormed.lean ====
section
/-! DEFINITION. Which terms of `Instr` are instructions the decoder can give. The operand fields are checked by
their types (a bit index is 0..7, an immediate has its width), and no defined instruction has a reserved field
value (rule R78); one term form is not an instruction. -/

namespace Sys2Proof

/-- "The byte 0xCB is not an instruction of its own" (rule R205): its bytes are the prefixed instruction's. -/
def Instr.isPrefixRow (i : Instr) : Bool :=
  match i with
  | .prefixCb _ => true
  | _ => false

/-- A term that stands for an encoding of its own: every row but the prefix byte's. -/
def Instr.wf (i : Instr) : Bool := !i.isPrefixRow

end Sys2Proof
end

