-- ==== Sys2Proof/Machine/System.lean ====
section
/-! DEFINITION. NOP, HALT, STOP, DI, EI, the prefix byte and the undefined bytes (47_system.md, rules R199 to R206). -/

namespace Sys2Proof.Machine

/-- `halted <- 1` (rule R200). -/
def State.enterHalt (s : State) : State := { s with halted := true }

/-- `IME <- v` (rules R203, R204). -/
def State.putIme (s : State) (v : Bool) : State := { s with ime := v }

/-- STOP (rule R202): by default it raises OpcodeNotImplemented(0x10, false); under `halt_like` it halts. -/
def stopByConfig (s : State) : Out State :=
  match s.config.stopBehaviour with
  | .notImplemented => .next (s.raise (.opcodeNotImplemented 0x10#8 false))
  | .haltLike => runRule 2 4 State.enterHalt s

/-- An undefined byte raises UnrecognizedOpcode(code, false) and changes nothing but `fault` (rule R206). -/
def undefinedByte (code : Byte) (s : State) : Out State := .next (s.raise (.unrecognizedOpcode code false))

/-- The prefixed-table entry for the byte after 0xCB (rules R72, R205): group `x`, operation or bit `y`, operand
`r8[z]`. -/
def prefixedEntry (op : Byte) (s : State) : Out State :=
  match fieldX op, Operand8.ofCode (fieldZ op) with
  | 0, .reg r => rotReg (RotOp.ofCode (fieldY op)) r s
  | 0, .atHl => rotAtHl (RotOp.ofCode (fieldY op)) s
  | 1, .reg r => bitReg (bitIndex op) r s
  | 1, .atHl => bitAtHl (bitIndex op) s
  | 2, .reg r => resReg (bitIndex op) r s
  | 2, .atHl => resAtHl (bitIndex op) s
  | _, .reg r => setReg (bitIndex op) r s
  | _, .atHl => setAtHl (bitIndex op) s

/-- 00: `NOP` (rule R199). -/
def execNop (s : State) : Out State := runRule 1 4 (fun t => t) s

/-- 10: `STOP` (rule R202). -/
def execStop (_n : Byte) (s : State) : Out State := stopByConfig s

/-- 76: `HALT` (rule R200). -/
def execHalt (s : State) : Out State := runRule 1 4 State.enterHalt s

/-- CB: `PREFIX CB` (rule R205). -/
def execPrefixCb (op : Byte) (s : State) : Out State := prefixedEntry op s

/-- D3: `(undefined 0xD3)` (rule R206). -/
def execUndefinedD3 (s : State) : Out State := undefinedByte 0xD3 s

/-- DB: `(undefined 0xDB)` (rule R206). -/
def execUndefinedDB (s : State) : Out State := undefinedByte 0xDB s

/-- DD: `(undefined 0xDD)` (rule R206). -/
def execUndefinedDD (s : State) : Out State := undefinedByte 0xDD s

/-- E3: `(undefined 0xE3)` (rule R206). -/
def execUndefinedE3 (s : State) : Out State := undefinedByte 0xE3 s

/-- E4: `(undefined 0xE4)` (rule R206). -/
def execUndefinedE4 (s : State) : Out State := undefinedByte 0xE4 s

/-- EB: `(undefined 0xEB)` (rule R206). -/
def execUndefinedEB (s : State) : Out State := undefinedByte 0xEB s

/-- EC: `(undefined 0xEC)` (rule R206). -/
def execUndefinedEC (s : State) : Out State := undefinedByte 0xEC s

/-- ED: `(undefined 0xED)` (rule R206). -/
def execUndefinedED (s : State) : Out State := undefinedByte 0xED s

/-- F3: `DI` (rule R203). -/
def execDi (s : State) : Out State := runRule 1 4 (fun t => t.putIme false) s

/-- F4: `(undefined 0xF4)` (rule R206). -/
def execUndefinedF4 (s : State) : Out State := undefinedByte 0xF4 s

/-- FB: `EI` (rule R204). -/
def execEi (s : State) : Out State := runRule 1 4 (fun t => t.putIme true) s

/-- FC: `(undefined 0xFC)` (rule R206). -/
def execUndefinedFC (s : State) : Out State := undefinedByte 0xFC s

/-- FD: `(undefined 0xFD)` (rule R206). -/
def execUndefinedFD (s : State) : Out State := undefinedByte 0xFD s

end Sys2Proof.Machine
end

