-- ==== Sys2Proof/Machine/Fetch.lean ====
section
/-! DEFINITION. Fetching an instruction (rules R65, R82, R84): the bytes at PC, PC + 1 and PC + 2, mod 2^16, through
`read_u8`. Reads have no side effect (rule R49), so reading the third byte of a shorter instruction changes nothing
(log 8). -/

namespace Sys2Proof.Machine

/-- The instruction at PC. -/
def State.fetched (s : State) : Instr :=
  decodeBytes (s.readU8 s.pc) (s.readU8 (s.pc + 1)) (s.readU8 (s.pc + 2))

/-- Three bytes stored where the next fetch reads them, with no side effect. -/
def State.placeBytes (s : State) (b0 b1 b2 : Byte) : State :=
  ((s.poke s.pc b0).poke (s.pc + 1) b1).poke (s.pc + 2) b2

end Sys2Proof.Machine
end

