-- ==== Sys2Proof/Machine/Ppu.lean ====
section
/-! DEFINITION. The pixel pipeline (50_pixel_pipeline.md, rules R207 to R227). -/

namespace Sys2Proof.Machine

/-- LCDC, 0xFF40 (rule R35). -/
def State.lcdc (s : State) : Byte := s.readU8 0xFF40#16

/-- STAT, 0xFF41 (rule R36). -/
def State.stat (s : State) : Byte := s.io 0x41

/-- SCY, 0xFF42 (rule R37). -/
def State.scy (s : State) : Byte := s.readU8 0xFF42#16

/-- SCX, 0xFF43 (rule R37). -/
def State.scx (s : State) : Byte := s.readU8 0xFF43#16

/-- LY, 0xFF44 (rule R38). -/
def State.ly (s : State) : Byte := s.readU8 0xFF44#16

/-- Display enable, LCDC[7] (rules R35, R208). -/
def State.lcdOn (s : State) : Bool := s.lcdc.getLsbD 7

/-- The mode code of STAT[1:0] (rules R36, R210). -/
def Mode.code (m : Mode) : Byte :=
  match m with
  | .hBlank => 0
  | .vBlank => 1
  | .oamScan => 2
  | .drawingPixels => 3

/-- `SetMode(m)`: the mode, and its code straight into io[0x41] (rules R210, R55). -/
def State.setMode (s : State) (m : Mode) : State :=
  { s.putIo 0x41 ((s.stat &&& 0xFC#8) ||| m.code) with ppu := { s.ppu with mode := m } }

/-- LY written straight into io[0x44] (rules R55, R214). -/
def State.putLy (s : State) (v : Byte) : State := s.putIo 0x44 v

/-- `SCX >> 3` (rule R211). -/
def State.scxTile (s : State) : BitVec 5 := s.scx.extractLsb' 3 5

/-- `SCX & 7` (rule R211). -/
def State.scxFine (s : State) : BitVec 3 := s.scx.extractLsb' 0 3

/-- `EnterOAMScan()` (rule R211). -/
def State.enterOamScan (s : State) : State :=
  let s1 := s.setMode .oamScan
  { s1 with
    ppu := { s1.ppu with
      fetcherX := s1.scxTile, discard := s1.scxFine, fifo := [], scanlineX := 0,
      fetcherState := .getTileNumber, fetchDiv := false, tileNumber := 0, tileDataAddr := 0, tileLo := 0,
      tileHi := 0 } }

/-- The per-line reset of `EndOfLine` (rule R214). -/
def State.resetLine (s : State) : State :=
  { s with
    ppu := { s.ppu with
      lineCycles := 0, scanlineX := 0, fetcherX := s.scxTile, discard := s.scxFine, fifo := [],
      fetcherState := .getTileNumber, fetchDiv := false } }

/-- `io[0x44] <- LY + 1` (rules R214, R215). -/
def State.nextLy (s : State) : State := s.putLy (s.ly + 1)

/-- The mode a line begins in: VBlank from line 144 on, OAMScan before (rule R214). -/
def State.enterLine (s : State) : State := if s.ly = 144#8 then s.setMode .vBlank else s.enterOamScan

/-- `EndOfLine()` (rule R214). -/
def State.endOfLine (s : State) : State := s.resetLine.nextLy.enterLine

/-- `line_cycles <- 0` (rule R215). -/
def State.zeroLineCycles (s : State) : State := { s with ppu := { s.ppu with lineCycles := 0 } }

/-- LY 154 is replaced by 0, and the frame begins anew (rule R215). -/
def State.wrapLy (s : State) : State := if s.ly = 154#8 then (s.putLy 0#8).enterOamScan else s

/-- `VBlankLineEnd()` (rule R215). -/
def State.vBlankLineEnd (s : State) : State := s.zeroLineCycles.nextLy.wrapLy

/-! ### The fetcher -/

/-- `row` = `trunc_8(LY + SCY)` (rule R216). -/
def State.bgRow (s : State) : Byte := s.ly + s.scy

/-- The tile-map base, LCDC[3] (rules R35, R217). -/
def State.mapBase (s : State) : Word := if s.lcdc.getLsbD 3 then 0x9C00#16 else 0x9800#16

/-- The address of the tile number of the next fetch (rule R217). -/
def State.tileMapAddr (s : State) : Word :=
  s.mapBase + 32#16 * zext16 (s.bgRow >>> 3) + s.ppu.fetcherX.setWidth 16

/-- The address of the low plane byte of the current row (rule R218). -/
def State.tileAddr (s : State) : Word :=
  let base :=
    if s.lcdc.getLsbD 4 then 0x8000#16 + 16#16 * zext16 s.ppu.tileNumber
    else 0x9000#16 + 16#16 * sext16 s.ppu.tileNumber
  base + 2#16 * zext16 (s.bgRow &&& 7#8)

/-- An entry of the palette (rules R220, R222). -/
def paletteColor (p : Palette) (hi lo : Bool) : Color :=
  match hi, lo with
  | false, false => p.c0
  | false, true => p.c1
  | true, false => p.c2
  | true, true => p.c3

/-- The eight pixels of a row, bit 7 first, through the palette (rule R220). -/
def decodeRow (p : Palette) (hi lo : Byte) : List Color :=
  [7, 6, 5, 4, 3, 2, 1, 0].map fun i => paletteColor p (hi.getLsbD i) (lo.getLsbD i)

/-- The Push stage (rule R220): it fires only while the FIFO holds 8 entries or fewer. -/
def Ppu.pushStage (p : Ppu) : Ppu :=
  if p.fifo.length ≤ Config.fifoCap - Config.fifoRefill then
    { p with
      fifo := p.fifo ++ decodeRow p.palette p.tileHi p.tileLo
      fetcherX := p.fetcherX + 1
      fetcherState := .getTileNumber }
  else p

/-- `FetcherStep()` (rules R216 to R220). -/
def State.fetcherStep (s : State) : State :=
  match s.ppu.fetcherState with
  | .getTileNumber =>
    { s with ppu := { s.ppu with tileNumber := s.readU8 s.tileMapAddr, fetcherState := .tileDataLow } }
  | .tileDataLow =>
    { s with
      ppu := { s.ppu with
        tileDataAddr := s.tileAddr, tileLo := s.readU8 s.tileAddr, fetcherState := .tileDataHigh } }
  | .tileDataHigh =>
    { s with ppu := { s.ppu with tileHi := s.readU8 (s.ppu.tileDataAddr + 1), fetcherState := .push } }
  | .push => { s with ppu := s.ppu.pushStage }

/-! ### Pixel output -/

/-- The frame buffer with a pixel written at row `ly`, column `x` (rules R221, R223). A position outside the picture,
which rule R221 says does not occur, is dropped (log 12). -/
def putPixel (fb : Sparse Color) (ly x : Nat) (c : Color) : Sparse Color :=
  if ly < Config.screenH ∧ x < Config.screenW then Sparse.set blankColor fb (ly * Config.screenW + x) c else fb

/-- The pixel at row `ly`, column `x` (rule R223). -/
def State.pixel (s : State) (ly x : Nat) : Color :=
  Sparse.get blankColor s.ppu.frameBuffer (ly * Config.screenW + x)

/-- `PixelStep()` (rule R221). -/
def State.pixelStep (s : State) : State :=
  match s.ppu.fifo with
  | [] => s
  | c :: rest =>
    if s.ppu.discard ≠ 0#3 then { s with ppu := { s.ppu with fifo := rest, discard := s.ppu.discard - 1 } }
    else
      { s with
        ppu := { s.ppu with
          fifo := rest
          frameBuffer := putPixel s.ppu.frameBuffer s.ly.toNat s.ppu.scanlineX c
          scanlineX := s.ppu.scanlineX + 1 } }

/-! ### The tick -/

/-- `fetch_div <- 1 - fetch_div` (rule R209). -/
def State.flipDiv (s : State) : State := { s with ppu := { s.ppu with fetchDiv := !s.ppu.fetchDiv } }

/-- A fetcher step on every tick that leaves `fetch_div` at 0 (rules R209, R213). -/
def State.fetchIfDue (s : State) : State := if s.ppu.fetchDiv then s else s.fetcherStep

/-- `SetMode(HBlank)` at the 160th pixel (rule R209). -/
def State.endDrawing (s : State) : State := if s.ppu.scanlineX = Config.screenW then s.setMode .hBlank else s

/-- A tick in DrawingPixels: fetcher, then pixel, then the x = 160 check (rule R209, D34). -/
def State.drawTick (s : State) : State := s.flipDiv.fetchIfDue.pixelStep.endDrawing

/-- `line_cycles <- line_cycles + 1` (rule R209). -/
def State.countCycle (s : State) : State := { s with ppu := { s.ppu with lineCycles := s.ppu.lineCycles + 1 } }

/-- The part of a tick that the mode decides (rule R209). -/
def State.modeTick (s : State) : State :=
  match s.ppu.mode with
  | .oamScan => if Config.oamScanCycles ≤ s.ppu.lineCycles then s.setMode .drawingPixels else s
  | .drawingPixels => s.drawTick
  | .hBlank => if Config.lineCycles ≤ s.ppu.lineCycles then s.endOfLine else s
  | .vBlank => if Config.lineCycles ≤ s.ppu.lineCycles then s.vBlankLineEnd else s

/-- `PpuTick()` (rules R208, R209). -/
def State.ppuTick (s : State) : State := if s.lcdOn then s.countCycle.modeTick else s

/-- `update_graphics(cycles)`: one tick per T-cycle (rule R207). -/
def State.updateGraphics (s : State) : Nat → State
  | 0 => s
  | n + 1 => s.ppuTick.updateGraphics n

end Sys2Proof.Machine
end

