-- ==== Sys2Proof/Machine/Timing.lean ====
section
/-! DEFINITION. What a system step does after the CPU step: timer, PPU, frame counter (rules R230, R253), and the idle
CPU step (rule R201). -/

namespace Sys2Proof.Machine

/-- The timer: `div_counter` advances by the step's T-cycles, mod 2^16 (rule R253). -/
def State.advanceDiv (s : State) (c : Nat) : State :=
  { s with bus := { s.bus with divCounter := s.bus.divCounter + BitVec.ofNat 16 c } }

/-- Timer, then PPU, then the frame counter, for `c` T-cycles (rule R230). -/
def State.elapse (s : State) (c : Nat) : State :=
  let s1 := (s.advanceDiv c).updateGraphics c
  { s1 with frameCycles := s1.frameCycles + c }

/-- `halt_idle()`: 4 T-cycles, PC kept, nothing else (rule R201). -/
def State.haltIdle (s : State) : State := ((s.begin 4).jump s.pc).advance 0

end Sys2Proof.Machine
end

