-- ==== Sys2Proof/Machine/SystemStep.lean ====
section
/-! DEFINITION. One CPU step (rule R82) and one system step with the state it leaves (rule R230). -/

namespace Sys2Proof.Machine

/-- `execute_next_opcode()` (rule R82): no step while a fault is recorded, an idle step while halted, else the
fetched instruction's meaning. The count it returns is `State.cycles`; an error it raises stands in the `fault` of the
state it answers (log 6). -/
def cpuStep (s : State) : Out State :=
  match s.fault with
  | some e => .fault e
  | none => if s.halted then .next s.haltIdle else exec s.fetched s

/-- What `system_step()` returns (rule R230), each with the state it leaves. -/
inductive SystemOut where
  /-- `Ok(c)`: the step took `c` T-cycles -/
  | ok (c : Nat) (s : State)
  /-- `Fault(E)`: raised by this step or by an earlier one -/
  | fault (e : Fault) (s : State)
  /-- the CPU step was refused; no instruction of this model refuses -/
  | refused (r : Refusal) (s : State)
  deriving DecidableEq, Repr

/-- The end of a system step whose CPU step left `t` (rule R230): the error it raised, with no timer advance and no PPU
update (rule R244), or its T-cycles, passed by the timer, the PPU and the frame counter. -/
def State.finishStep (t : State) : SystemOut :=
  match t.fault with
  | some e => .fault e t
  | none => .ok t.cycles (t.elapse t.cycles)

/-- `system_step()` (rule R230). -/
def systemStep (s : State) : SystemOut :=
  match cpuStep s with
  | .next t => t.finishStep
  | .fault e => .fault e s
  | .refused r => .refused r s

/-- The outcome of a system step as the host reads it: a fault or a refusal carries no state. -/
def SystemOut.outcome (o : SystemOut) : Out State :=
  match o with
  | .ok _ t => .next t
  | .fault e _ => .fault e
  | .refused r _ => .refused r

end Sys2Proof.Machine
end

