-- ==== Sys2Proof/Machine/Step.lean ====
section
/-! DEFINITION. The step of the machine: one system step (rule R230), and how an instruction is placed for it. -/

namespace Sys2Proof.Machine

/-- `system_step()` (rule R230): the next state, or the fault it returns. `systemStep` also says which state a fault
leaves. -/
def step (s : State) : Host.Outcome State Fault Refusal := (systemStep s).outcome

/-- `s` with an instruction's bytes stored where the next step fetches them (log 11). -/
def State.withFetchWord (s : State) (nbits w : Nat) : State :=
  match tableBytes nbits w with
  | (b0, b1, b2) => s.placeBytes b0 b1 b2

end Sys2Proof.Machine
end

