-- ==== Sys2Proof/Machine/FrameDriver.lean ====
section
/-! DEFINITION. The frame driver (rules R231, R232). -/

namespace Sys2Proof.Machine

/-- What `run_frame()` answers, each with the state it leaves. `unfinished` is the model's own, for a fuel that ran
out: `runFrame` never answers it (log 17). -/
inductive FrameOut where
  | frame (picture : Sparse Color) (s : State)
  | fault (e : Fault) (s : State)
  | refused (r : Refusal) (s : State)
  | unfinished (s : State)
  deriving DecidableEq, Repr

/-- The loop of `run_frame()` for at most `fuel` system steps: it stops at the first fault, and the cycles past the
budget carry into the next frame (rule R231, D40, D55). -/
def runFrameFor : Nat → State → FrameOut
  | fuel, s =>
    if s.frameCycles < Config.frameCycles then
      match fuel with
      | 0 => .unfinished s
      | fuel + 1 =>
        match systemStep s with
        | .ok _ t => runFrameFor fuel t
        | .fault e t => .fault e t
        | .refused r t => .refused r t
    else
      .frame s.ppu.frameBuffer { s with frameCycles := s.frameCycles - Config.frameCycles }

/-- `run_frame()` (rule R231). While a fault is recorded it does nothing and reports the fault again, whatever the frame
counter holds (rule R245; log 25). No step takes fewer than 4 T-cycles, so the fuel is enough (log 17). -/
def runFrame (s : State) : FrameOut :=
  match s.fault with
  | some e => .fault e s
  | none => runFrameFor Config.frameCycles s

end Sys2Proof.Machine
end

