-- ==== Sys2Proof/Machine/HostActions.lean ====
section
/-! DEFINITION. What the host may do between two system steps (rules R233 to R242, R248). Building the machine is
`State.build`; the frame driver is in Machine/FrameDriver.lean. -/

namespace Sys2Proof.Machine

/-- The registers and memory bytes `load_state` is given (rule R234). -/
structure Golden where
  a : Byte
  b : Byte
  c : Byte
  d : Byte
  e : Byte
  f : Byte
  h : Byte
  l : Byte
  sp : Word
  pc : Word
  mem : List (Word × Byte)
  deriving DecidableEq, Repr

/-- A list of bytes stored where their addresses read from, in order, with no side effect (rule R234). -/
def State.pokeAll (s : State) : List (Word × Byte) → State
  | [] => s
  | (a, v) :: rest => (s.poke a v).pokeAll rest

/-- `load_state(regs, sp, pc, mem)` (rule R234, D48): F is masked, `halted` and `fault` are cleared, nothing else but
the listed bytes changes (log 18). -/
def State.loadState (s : State) (g : Golden) : State :=
  { s with
    regs := { a := g.a, b := g.b, c := g.c, d := g.d, e := g.e, f := maskF g.f, h := g.h, l := g.l }
    sp := g.sp
    pc := g.pc
    halted := false
    fault := none }.pokeAll g.mem

/-- What inspecting the state reports (rule R235). -/
structure Report where
  regs : RegFile
  sp : Word
  pc : Word
  bytes : List Byte
  deriving DecidableEq, Repr

/-- The inspect-state action (rule R235). -/
def State.inspect (s : State) (as : List Word) : Report :=
  { regs := s.regs, sp := s.sp, pc := s.pc, bytes := as.map s.readU8 }

/-- `get_frame()` (rules R223, R236). -/
def State.getFrame (s : State) : Sparse Color := s.ppu.frameBuffer

/-- `set_palette(p)` (rule R237). DESIGN CHOICE (log 26): it acts in every state, one that records a fault too, where rule
R245 and D29 neither allow it by name nor make it do nothing. -/
def State.setPalette (s : State) (p : Palette) : State := { s with ppu := { s.ppu with palette := p } }

/-- `get_range(start, end)` (rules R56, R238): `none` is OutOfRange. -/
def State.getRange (s : State) (start stop : Nat) : Option (List Byte) :=
  if start ≤ stop ∧ stop ≤ 0x10000 then
    some ((List.range (stop - start)).map fun i => s.readU8 (BitVec.ofNat 16 (start + i)))
  else none

/-- What the diagnostics collaborator receives (rule R239). -/
structure Diagnostics where
  fault : Option Fault
  regs : RegFile
  sp : Word
  pc : Word
  memory : Option (List Byte)
  deriving DecidableEq, Repr

/-- The diagnostics read (rule R239): the registers and, if asked, the whole memory. -/
def State.diagnostics (s : State) (withMemory : Bool) : Diagnostics :=
  { fault := s.fault, regs := s.regs, sp := s.sp, pc := s.pc
    memory := if withMemory then s.getRange 0x0000 0x10000 else none }

/-- `wake()` (rule R240). -/
def State.wake (s : State) : State :=
  match s.fault with
  | some _ => s
  | none => { s with halted := false }

/-- `IE & IF & 0x1F` (rule R248). -/
def State.pending (s : State) : Byte := s.bus.ie &&& s.intFlags &&& 0x1F#8

/-- The lowest-numbered pending source (rule R249). -/
def lowestPending (p : Byte) : Option (Fin 5) :=
  if p.getLsbD 0 then some 0
  else if p.getLsbD 1 then some 1
  else if p.getLsbD 2 then some 2
  else if p.getLsbD 3 then some 3
  else if p.getLsbD 4 then some 4
  else none

/-- The dispatch once the request of source `k` stands in IF (rule R248): it wakes the core if anything is pending,
and enters the handler if IME is set, at a cost of 20 T-cycles. -/
def State.dispatchRequested (s : State) : State :=
  match lowestPending s.pending with
  | none => s
  | some j =>
    let s1 := { s with halted := false }
    if s1.ime then (s1.enterInterrupt j).elapse 20 else s1

/-- `dispatch_interrupt(k)` (rule R248): it exists only when `interrupts_modelled` (rule R241; `none` otherwise), and
does nothing while a fault is recorded. -/
def State.dispatchInterrupt (s : State) (k : Fin 5) : Option State :=
  if s.config.interruptsModelled then
    match s.fault with
    | some _ => some s
    | none => some (s.putIo 0x0F (s.intFlags ||| ((1 : Byte) <<< k.val))).dispatchRequested
  else none

end Sys2Proof.Machine
end

