-- ==== Sys2Proof/Machine/OpcodeTable.lean ====
section
/-! DEFINITION. The decode tables' descriptors (rules R83, R87), transcribed from the `length`, `cycles`, `cycles_taken`
and `modes` columns of spec/opcode_table.json, with the modes of the instruction's rule where the two differ. They are
"configuration, not state": the meanings of the families carry their own lengths and counts, and the descriptor is what
those are checked against. -/

namespace Sys2Proof.Machine

/-- One entry of a decode table. An undefined byte has no length and no count (rule R206), the prefix byte no count of
its own (rule R205). -/
structure Descriptor where
  length : Option Nat
  cycles : Option Nat
  cyclesTaken : Option Nat
  left : AddrMode
  right : AddrMode
  deriving DecidableEq, Repr

/-- A row whose count depends on nothing. -/
def Descriptor.plain (length cycles : Nat) (left right : AddrMode) : Descriptor :=
  { length := some length, cycles := some cycles, cyclesTaken := none, left := left, right := right }

/-- A conditional transfer: the count when the condition fails and when it holds. -/
def Descriptor.conditional (length cycles taken : Nat) (left right : AddrMode) : Descriptor :=
  { length := some length, cycles := some cycles, cyclesTaken := some taken, left := left, right := right }

/-- The "unrecognized" sentinel. -/
def Descriptor.unrecognized : Descriptor :=
  { length := none, cycles := none, cyclesTaken := none, left := .none, right := .none }

/-- The prefix byte. -/
def Descriptor.prefixByte : Descriptor :=
  { length := some 2, cycles := none, cyclesTaken := none, left := .none, right := .none }

/-- The descriptor of an instruction's row. Where the `modes` column differs from the instruction's rule, the rule
governs (93_implementation_defined.md, G58): JP and CALL of an absolute address take `AddressU16` (rules R73, R190, R191,
R193, R194), where the column says `ImmediateU16`. -/
def descriptor (i : Instr) : Descriptor :=
  match i with
  | .nop => .plain 1 4 .none .none
  | .ldBcN16 _ => .plain 3 12 (.immediateRegister (.pair .bc)) .immediateU16
  | .ldAtBcA => .plain 1 8 (.addressRegister .bc) (.immediateRegister (.r8 .a))
  | .incBc => .plain 1 8 (.immediateRegister (.pair .bc)) .none
  | .incB => .plain 1 4 (.immediateRegister (.r8 .b)) .none
  | .decB => .plain 1 4 (.immediateRegister (.r8 .b)) .none
  | .ldBN8 _ => .plain 2 8 (.immediateRegister (.r8 .b)) .immediateU8
  | .rlca => .plain 1 4 (.immediateRegister (.r8 .a)) .none
  | .ldAtA16Sp _ => .plain 3 20 .addressU16 (.immediateRegister (.pair .sp))
  | .addHlBc => .plain 1 8 (.immediateRegister (.pair .hl)) (.immediateRegister (.pair .bc))
  | .ldAAtBc => .plain 1 8 (.immediateRegister (.r8 .a)) (.addressRegister .bc)
  | .decBc => .plain 1 8 (.immediateRegister (.pair .bc)) .none
  | .incC => .plain 1 4 (.immediateRegister (.r8 .c)) .none
  | .decC => .plain 1 4 (.immediateRegister (.r8 .c)) .none
  | .ldCN8 _ => .plain 2 8 (.immediateRegister (.r8 .c)) .immediateU8
  | .rrca => .plain 1 4 (.immediateRegister (.r8 .a)) .none
  | .stop _ => .plain 2 4 .none .none
  | .ldDeN16 _ => .plain 3 12 (.immediateRegister (.pair .de)) .immediateU16
  | .ldAtDeA => .plain 1 8 (.addressRegister .de) (.immediateRegister (.r8 .a))
  | .incDe => .plain 1 8 (.immediateRegister (.pair .de)) .none
  | .incD => .plain 1 4 (.immediateRegister (.r8 .d)) .none
  | .decD => .plain 1 4 (.immediateRegister (.r8 .d)) .none
  | .ldDN8 _ => .plain 2 8 (.immediateRegister (.r8 .d)) .immediateU8
  | .rla => .plain 1 4 (.immediateRegister (.r8 .a)) .none
  | .jrE8 _ => .plain 2 12 .immediateI8 .none
  | .addHlDe => .plain 1 8 (.immediateRegister (.pair .hl)) (.immediateRegister (.pair .de))
  | .ldAAtDe => .plain 1 8 (.immediateRegister (.r8 .a)) (.addressRegister .de)
  | .decDe => .plain 1 8 (.immediateRegister (.pair .de)) .none
  | .incE => .plain 1 4 (.immediateRegister (.r8 .e)) .none
  | .decE => .plain 1 4 (.immediateRegister (.r8 .e)) .none
  | .ldEN8 _ => .plain 2 8 (.immediateRegister (.r8 .e)) .immediateU8
  | .rra => .plain 1 4 (.immediateRegister (.r8 .a)) .none
  | .jrNzE8 _ => .conditional 2 8 12 .immediateI8 .none
  | .ldHlN16 _ => .plain 3 12 (.immediateRegister (.pair .hl)) .immediateU16
  | .ldAtHlIncA => .plain 1 8 .hlPostIncrement (.immediateRegister (.r8 .a))
  | .incHl => .plain 1 8 (.immediateRegister (.pair .hl)) .none
  | .incH => .plain 1 4 (.immediateRegister (.r8 .h)) .none
  | .decH => .plain 1 4 (.immediateRegister (.r8 .h)) .none
  | .ldHN8 _ => .plain 2 8 (.immediateRegister (.r8 .h)) .immediateU8
  | .daa => .plain 1 4 (.immediateRegister (.r8 .a)) .none
  | .jrZE8 _ => .conditional 2 8 12 .immediateI8 .none
  | .addHlHl => .plain 1 8 (.immediateRegister (.pair .hl)) (.immediateRegister (.pair .hl))
  | .ldAAtHlInc => .plain 1 8 (.immediateRegister (.r8 .a)) .hlPostIncrement
  | .decHl => .plain 1 8 (.immediateRegister (.pair .hl)) .none
  | .incL => .plain 1 4 (.immediateRegister (.r8 .l)) .none
  | .decL => .plain 1 4 (.immediateRegister (.r8 .l)) .none
  | .ldLN8 _ => .plain 2 8 (.immediateRegister (.r8 .l)) .immediateU8
  | .cpl => .plain 1 4 (.immediateRegister (.r8 .a)) .none
  | .jrNcE8 _ => .conditional 2 8 12 .immediateI8 .none
  | .ldSpN16 _ => .plain 3 12 (.immediateRegister (.pair .sp)) .immediateU16
  | .ldAtHlDecA => .plain 1 8 .hlPostDecrement (.immediateRegister (.r8 .a))
  | .incSp => .plain 1 8 (.immediateRegister (.pair .sp)) .none
  | .incAtHl => .plain 1 12 (.addressRegister .hl) .none
  | .decAtHl => .plain 1 12 (.addressRegister .hl) .none
  | .ldAtHlN8 _ => .plain 2 12 (.addressRegister .hl) .immediateU8
  | .scf => .plain 1 4 .none .none
  | .jrCE8 _ => .conditional 2 8 12 .immediateI8 .none
  | .addHlSp => .plain 1 8 (.immediateRegister (.pair .hl)) (.immediateRegister (.pair .sp))
  | .ldAAtHlDec => .plain 1 8 (.immediateRegister (.r8 .a)) .hlPostDecrement
  | .decSp => .plain 1 8 (.immediateRegister (.pair .sp)) .none
  | .incA => .plain 1 4 (.immediateRegister (.r8 .a)) .none
  | .decA => .plain 1 4 (.immediateRegister (.r8 .a)) .none
  | .ldAN8 _ => .plain 2 8 (.immediateRegister (.r8 .a)) .immediateU8
  | .ccf => .plain 1 4 .none .none
  | .ldBB => .plain 1 4 (.immediateRegister (.r8 .b)) (.immediateRegister (.r8 .b))
  | .ldBC => .plain 1 4 (.immediateRegister (.r8 .b)) (.immediateRegister (.r8 .c))
  | .ldBD => .plain 1 4 (.immediateRegister (.r8 .b)) (.immediateRegister (.r8 .d))
  | .ldBE => .plain 1 4 (.immediateRegister (.r8 .b)) (.immediateRegister (.r8 .e))
  | .ldBH => .plain 1 4 (.immediateRegister (.r8 .b)) (.immediateRegister (.r8 .h))
  | .ldBL => .plain 1 4 (.immediateRegister (.r8 .b)) (.immediateRegister (.r8 .l))
  | .ldBAtHl => .plain 1 8 (.immediateRegister (.r8 .b)) (.addressRegister .hl)
  | .ldBA => .plain 1 4 (.immediateRegister (.r8 .b)) (.immediateRegister (.r8 .a))
  | .ldCB => .plain 1 4 (.immediateRegister (.r8 .c)) (.immediateRegister (.r8 .b))
  | .ldCC => .plain 1 4 (.immediateRegister (.r8 .c)) (.immediateRegister (.r8 .c))
  | .ldCD => .plain 1 4 (.immediateRegister (.r8 .c)) (.immediateRegister (.r8 .d))
  | .ldCE => .plain 1 4 (.immediateRegister (.r8 .c)) (.immediateRegister (.r8 .e))
  | .ldCH => .plain 1 4 (.immediateRegister (.r8 .c)) (.immediateRegister (.r8 .h))
  | .ldCL => .plain 1 4 (.immediateRegister (.r8 .c)) (.immediateRegister (.r8 .l))
  | .ldCAtHl => .plain 1 8 (.immediateRegister (.r8 .c)) (.addressRegister .hl)
  | .ldCA => .plain 1 4 (.immediateRegister (.r8 .c)) (.immediateRegister (.r8 .a))
  | .ldDB => .plain 1 4 (.immediateRegister (.r8 .d)) (.immediateRegister (.r8 .b))
  | .ldDC => .plain 1 4 (.immediateRegister (.r8 .d)) (.immediateRegister (.r8 .c))
  | .ldDD => .plain 1 4 (.immediateRegister (.r8 .d)) (.immediateRegister (.r8 .d))
  | .ldDE => .plain 1 4 (.immediateRegister (.r8 .d)) (.immediateRegister (.r8 .e))
  | .ldDH => .plain 1 4 (.immediateRegister (.r8 .d)) (.immediateRegister (.r8 .h))
  | .ldDL => .plain 1 4 (.immediateRegister (.r8 .d)) (.immediateRegister (.r8 .l))
  | .ldDAtHl => .plain 1 8 (.immediateRegister (.r8 .d)) (.addressRegister .hl)
  | .ldDA => .plain 1 4 (.immediateRegister (.r8 .d)) (.immediateRegister (.r8 .a))
  | .ldEB => .plain 1 4 (.immediateRegister (.r8 .e)) (.immediateRegister (.r8 .b))
  | .ldEC => .plain 1 4 (.immediateRegister (.r8 .e)) (.immediateRegister (.r8 .c))
  | .ldED => .plain 1 4 (.immediateRegister (.r8 .e)) (.immediateRegister (.r8 .d))
  | .ldEE => .plain 1 4 (.immediateRegister (.r8 .e)) (.immediateRegister (.r8 .e))
  | .ldEH => .plain 1 4 (.immediateRegister (.r8 .e)) (.immediateRegister (.r8 .h))
  | .ldEL => .plain 1 4 (.immediateRegister (.r8 .e)) (.immediateRegister (.r8 .l))
  | .ldEAtHl => .plain 1 8 (.immediateRegister (.r8 .e)) (.addressRegister .hl)
  | .ldEA => .plain 1 4 (.immediateRegister (.r8 .e)) (.immediateRegister (.r8 .a))
  | .ldHB => .plain 1 4 (.immediateRegister (.r8 .h)) (.immediateRegister (.r8 .b))
  | .ldHC => .plain 1 4 (.immediateRegister (.r8 .h)) (.immediateRegister (.r8 .c))
  | .ldHD => .plain 1 4 (.immediateRegister (.r8 .h)) (.immediateRegister (.r8 .d))
  | .ldHE => .plain 1 4 (.immediateRegister (.r8 .h)) (.immediateRegister (.r8 .e))
  | .ldHH => .plain 1 4 (.immediateRegister (.r8 .h)) (.immediateRegister (.r8 .h))
  | .ldHL => .plain 1 4 (.immediateRegister (.r8 .h)) (.immediateRegister (.r8 .l))
  | .ldHAtHl => .plain 1 8 (.immediateRegister (.r8 .h)) (.addressRegister .hl)
  | .ldHA => .plain 1 4 (.immediateRegister (.r8 .h)) (.immediateRegister (.r8 .a))
  | .ldLB => .plain 1 4 (.immediateRegister (.r8 .l)) (.immediateRegister (.r8 .b))
  | .ldLC => .plain 1 4 (.immediateRegister (.r8 .l)) (.immediateRegister (.r8 .c))
  | .ldLD => .plain 1 4 (.immediateRegister (.r8 .l)) (.immediateRegister (.r8 .d))
  | .ldLE => .plain 1 4 (.immediateRegister (.r8 .l)) (.immediateRegister (.r8 .e))
  | .ldLH => .plain 1 4 (.immediateRegister (.r8 .l)) (.immediateRegister (.r8 .h))
  | .ldLL => .plain 1 4 (.immediateRegister (.r8 .l)) (.immediateRegister (.r8 .l))
  | .ldLAtHl => .plain 1 8 (.immediateRegister (.r8 .l)) (.addressRegister .hl)
  | .ldLA => .plain 1 4 (.immediateRegister (.r8 .l)) (.immediateRegister (.r8 .a))
  | .ldAtHlB => .plain 1 8 (.addressRegister .hl) (.immediateRegister (.r8 .b))
  | .ldAtHlC => .plain 1 8 (.addressRegister .hl) (.immediateRegister (.r8 .c))
  | .ldAtHlD => .plain 1 8 (.addressRegister .hl) (.immediateRegister (.r8 .d))
  | .ldAtHlE => .plain 1 8 (.addressRegister .hl) (.immediateRegister (.r8 .e))
  | .ldAtHlH => .plain 1 8 (.addressRegister .hl) (.immediateRegister (.r8 .h))
  | .ldAtHlL => .plain 1 8 (.addressRegister .hl) (.immediateRegister (.r8 .l))
  | .halt => .plain 1 4 .none .none
  | .ldAtHlA => .plain 1 8 (.addressRegister .hl) (.immediateRegister (.r8 .a))
  | .ldAB => .plain 1 4 (.immediateRegister (.r8 .a)) (.immediateRegister (.r8 .b))
  | .ldAC => .plain 1 4 (.immediateRegister (.r8 .a)) (.immediateRegister (.r8 .c))
  | .ldAD => .plain 1 4 (.immediateRegister (.r8 .a)) (.immediateRegister (.r8 .d))
  | .ldAE => .plain 1 4 (.immediateRegister (.r8 .a)) (.immediateRegister (.r8 .e))
  | .ldAH => .plain 1 4 (.immediateRegister (.r8 .a)) (.immediateRegister (.r8 .h))
  | .ldAL => .plain 1 4 (.immediateRegister (.r8 .a)) (.immediateRegister (.r8 .l))
  | .ldAAtHl => .plain 1 8 (.immediateRegister (.r8 .a)) (.addressRegister .hl)
  | .ldAA => .plain 1 4 (.immediateRegister (.r8 .a)) (.immediateRegister (.r8 .a))
  | .addAB => .plain 1 4 (.immediateRegister (.r8 .a)) (.immediateRegister (.r8 .b))
  | .addAC => .plain 1 4 (.immediateRegister (.r8 .a)) (.immediateRegister (.r8 .c))
  | .addAD => .plain 1 4 (.immediateRegister (.r8 .a)) (.immediateRegister (.r8 .d))
  | .addAE => .plain 1 4 (.immediateRegister (.r8 .a)) (.immediateRegister (.r8 .e))
  | .addAH => .plain 1 4 (.immediateRegister (.r8 .a)) (.immediateRegister (.r8 .h))
  | .addAL => .plain 1 4 (.immediateRegister (.r8 .a)) (.immediateRegister (.r8 .l))
  | .addAAtHl => .plain 1 8 (.immediateRegister (.r8 .a)) (.addressRegister .hl)
  | .addAA => .plain 1 4 (.immediateRegister (.r8 .a)) (.immediateRegister (.r8 .a))
  | .adcAB => .plain 1 4 (.immediateRegister (.r8 .a)) (.immediateRegister (.r8 .b))
  | .adcAC => .plain 1 4 (.immediateRegister (.r8 .a)) (.immediateRegister (.r8 .c))
  | .adcAD => .plain 1 4 (.immediateRegister (.r8 .a)) (.immediateRegister (.r8 .d))
  | .adcAE => .plain 1 4 (.immediateRegister (.r8 .a)) (.immediateRegister (.r8 .e))
  | .adcAH => .plain 1 4 (.immediateRegister (.r8 .a)) (.immediateRegister (.r8 .h))
  | .adcAL => .plain 1 4 (.immediateRegister (.r8 .a)) (.immediateRegister (.r8 .l))
  | .adcAAtHl => .plain 1 8 (.immediateRegister (.r8 .a)) (.addressRegister .hl)
  | .adcAA => .plain 1 4 (.immediateRegister (.r8 .a)) (.immediateRegister (.r8 .a))
  | .subAB => .plain 1 4 (.immediateRegister (.r8 .a)) (.immediateRegister (.r8 .b))
  | .subAC => .plain 1 4 (.immediateRegister (.r8 .a)) (.immediateRegister (.r8 .c))
  | .subAD => .plain 1 4 (.immediateRegister (.r8 .a)) (.immediateRegister (.r8 .d))
  | .subAE => .plain 1 4 (.immediateRegister (.r8 .a)) (.immediateRegister (.r8 .e))
  | .subAH => .plain 1 4 (.immediateRegister (.r8 .a)) (.immediateRegister (.r8 .h))
  | .subAL => .plain 1 4 (.immediateRegister (.r8 .a)) (.immediateRegister (.r8 .l))
  | .subAAtHl => .plain 1 8 (.immediateRegister (.r8 .a)) (.addressRegister .hl)
  | .subAA => .plain 1 4 (.immediateRegister (.r8 .a)) (.immediateRegister (.r8 .a))
  | .sbcAB => .plain 1 4 (.immediateRegister (.r8 .a)) (.immediateRegister (.r8 .b))
  | .sbcAC => .plain 1 4 (.immediateRegister (.r8 .a)) (.immediateRegister (.r8 .c))
  | .sbcAD => .plain 1 4 (.immediateRegister (.r8 .a)) (.immediateRegister (.r8 .d))
  | .sbcAE => .plain 1 4 (.immediateRegister (.r8 .a)) (.immediateRegister (.r8 .e))
  | .sbcAH => .plain 1 4 (.immediateRegister (.r8 .a)) (.immediateRegister (.r8 .h))
  | .sbcAL => .plain 1 4 (.immediateRegister (.r8 .a)) (.immediateRegister (.r8 .l))
  | .sbcAAtHl => .plain 1 8 (.immediateRegister (.r8 .a)) (.addressRegister .hl)
  | .sbcAA => .plain 1 4 (.immediateRegister (.r8 .a)) (.immediateRegister (.r8 .a))
  | .andAB => .plain 1 4 (.immediateRegister (.r8 .a)) (.immediateRegister (.r8 .b))
  | .andAC => .plain 1 4 (.immediateRegister (.r8 .a)) (.immediateRegister (.r8 .c))
  | .andAD => .plain 1 4 (.immediateRegister (.r8 .a)) (.immediateRegister (.r8 .d))
  | .andAE => .plain 1 4 (.immediateRegister (.r8 .a)) (.immediateRegister (.r8 .e))
  | .andAH => .plain 1 4 (.immediateRegister (.r8 .a)) (.immediateRegister (.r8 .h))
  | .andAL => .plain 1 4 (.immediateRegister (.r8 .a)) (.immediateRegister (.r8 .l))
  | .andAAtHl => .plain 1 8 (.immediateRegister (.r8 .a)) (.addressRegister .hl)
  | .andAA => .plain 1 4 (.immediateRegister (.r8 .a)) (.immediateRegister (.r8 .a))
  | .xorAB => .plain 1 4 (.immediateRegister (.r8 .a)) (.immediateRegister (.r8 .b))
  | .xorAC => .plain 1 4 (.immediateRegister (.r8 .a)) (.immediateRegister (.r8 .c))
  | .xorAD => .plain 1 4 (.immediateRegister (.r8 .a)) (.immediateRegister (.r8 .d))
  | .xorAE => .plain 1 4 (.immediateRegister (.r8 .a)) (.immediateRegister (.r8 .e))
  | .xorAH => .plain 1 4 (.immediateRegister (.r8 .a)) (.immediateRegister (.r8 .h))
  | .xorAL => .plain 1 4 (.immediateRegister (.r8 .a)) (.immediateRegister (.r8 .l))
  | .xorAAtHl => .plain 1 8 (.immediateRegister (.r8 .a)) (.addressRegister .hl)
  | .xorAA => .plain 1 4 (.immediateRegister (.r8 .a)) (.immediateRegister (.r8 .a))
  | .orAB => .plain 1 4 (.immediateRegister (.r8 .a)) (.immediateRegister (.r8 .b))
  | .orAC => .plain 1 4 (.immediateRegister (.r8 .a)) (.immediateRegister (.r8 .c))
  | .orAD => .plain 1 4 (.immediateRegister (.r8 .a)) (.immediateRegister (.r8 .d))
  | .orAE => .plain 1 4 (.immediateRegister (.r8 .a)) (.immediateRegister (.r8 .e))
  | .orAH => .plain 1 4 (.immediateRegister (.r8 .a)) (.immediateRegister (.r8 .h))
  | .orAL => .plain 1 4 (.immediateRegister (.r8 .a)) (.immediateRegister (.r8 .l))
  | .orAAtHl => .plain 1 8 (.immediateRegister (.r8 .a)) (.addressRegister .hl)
  | .orAA => .plain 1 4 (.immediateRegister (.r8 .a)) (.immediateRegister (.r8 .a))
  | .cpAB => .plain 1 4 (.immediateRegister (.r8 .a)) (.immediateRegister (.r8 .b))
  | .cpAC => .plain 1 4 (.immediateRegister (.r8 .a)) (.immediateRegister (.r8 .c))
  | .cpAD => .plain 1 4 (.immediateRegister (.r8 .a)) (.immediateRegister (.r8 .d))
  | .cpAE => .plain 1 4 (.immediateRegister (.r8 .a)) (.immediateRegister (.r8 .e))
  | .cpAH => .plain 1 4 (.immediateRegister (.r8 .a)) (.immediateRegister (.r8 .h))
  | .cpAL => .plain 1 4 (.immediateRegister (.r8 .a)) (.immediateRegister (.r8 .l))
  | .cpAAtHl => .plain 1 8 (.immediateRegister (.r8 .a)) (.addressRegister .hl)
  | .cpAA => .plain 1 4 (.immediateRegister (.r8 .a)) (.immediateRegister (.r8 .a))
  | .retNz => .conditional 1 8 20 .none .none
  | .popBc => .plain 1 12 (.immediateRegister (.pair .bc)) .none
  | .jpNzA16 _ => .conditional 3 12 16 .addressU16 .none
  | .jpA16 _ => .plain 3 16 .addressU16 .none
  | .callNzA16 _ => .conditional 3 12 24 .addressU16 .none
  | .pushBc => .plain 1 16 (.immediateRegister (.pair .bc)) .none
  | .addAN8 _ => .plain 2 8 (.immediateRegister (.r8 .a)) .immediateU8
  | .rst00 => .plain 1 16 .none .none
  | .retZ => .conditional 1 8 20 .none .none
  | .ret => .plain 1 16 .none .none
  | .jpZA16 _ => .conditional 3 12 16 .addressU16 .none
  | .prefixCb _ => .prefixByte
  | .callZA16 _ => .conditional 3 12 24 .addressU16 .none
  | .callA16 _ => .plain 3 24 .addressU16 .none
  | .adcAN8 _ => .plain 2 8 (.immediateRegister (.r8 .a)) .immediateU8
  | .rst08 => .plain 1 16 .none .none
  | .retNc => .conditional 1 8 20 .none .none
  | .popDe => .plain 1 12 (.immediateRegister (.pair .de)) .none
  | .jpNcA16 _ => .conditional 3 12 16 .addressU16 .none
  | .undefinedD3 => .unrecognized
  | .callNcA16 _ => .conditional 3 12 24 .addressU16 .none
  | .pushDe => .plain 1 16 (.immediateRegister (.pair .de)) .none
  | .subAN8 _ => .plain 2 8 (.immediateRegister (.r8 .a)) .immediateU8
  | .rst10 => .plain 1 16 .none .none
  | .retC => .conditional 1 8 20 .none .none
  | .reti => .plain 1 16 .none .none
  | .jpCA16 _ => .conditional 3 12 16 .addressU16 .none
  | .undefinedDB => .unrecognized
  | .callCA16 _ => .conditional 3 12 24 .addressU16 .none
  | .undefinedDD => .unrecognized
  | .sbcAN8 _ => .plain 2 8 (.immediateRegister (.r8 .a)) .immediateU8
  | .rst18 => .plain 1 16 .none .none
  | .ldhAtA8A _ => .plain 2 12 .addressHram (.immediateRegister (.r8 .a))
  | .popHl => .plain 1 12 (.immediateRegister (.pair .hl)) .none
  | .ldAtCA => .plain 1 8 .ioAddressOffset (.immediateRegister (.r8 .a))
  | .undefinedE3 => .unrecognized
  | .undefinedE4 => .unrecognized
  | .pushHl => .plain 1 16 (.immediateRegister (.pair .hl)) .none
  | .andAN8 _ => .plain 2 8 (.immediateRegister (.r8 .a)) .immediateU8
  | .rst20 => .plain 1 16 .none .none
  | .addSpE8 _ => .plain 2 16 (.immediateRegister (.pair .sp)) .immediateI8
  | .jpHl => .plain 1 4 (.immediateRegister (.pair .hl)) .none
  | .ldAtA16A _ => .plain 3 16 .addressU16 (.immediateRegister (.r8 .a))
  | .undefinedEB => .unrecognized
  | .undefinedEC => .unrecognized
  | .undefinedED => .unrecognized
  | .xorAN8 _ => .plain 2 8 (.immediateRegister (.r8 .a)) .immediateU8
  | .rst28 => .plain 1 16 .none .none
  | .ldhAAtA8 _ => .plain 2 12 (.immediateRegister (.r8 .a)) .addressHram
  | .popAf => .plain 1 12 (.immediateRegister .af) .none
  | .ldAAtC => .plain 1 8 (.immediateRegister (.r8 .a)) .ioAddressOffset
  | .di => .plain 1 4 .none .none
  | .undefinedF4 => .unrecognized
  | .pushAf => .plain 1 16 (.immediateRegister .af) .none
  | .orAN8 _ => .plain 2 8 (.immediateRegister (.r8 .a)) .immediateU8
  | .rst30 => .plain 1 16 .none .none
  | .ldHlSpE8 _ => .plain 2 12 (.immediateRegister (.pair .hl)) .immediateI8
  | .ldSpHl => .plain 1 8 (.immediateRegister (.pair .sp)) (.immediateRegister (.pair .hl))
  | .ldAAtA16 _ => .plain 3 16 (.immediateRegister (.r8 .a)) .addressU16
  | .ei => .plain 1 4 .none .none
  | .undefinedFC => .unrecognized
  | .undefinedFD => .unrecognized
  | .cpAN8 _ => .plain 2 8 (.immediateRegister (.r8 .a)) .immediateU8
  | .rst38 => .plain 1 16 .none .none
  | .rlcB => .plain 2 8 (.immediateRegister (.r8 .b)) .none
  | .rlcC => .plain 2 8 (.immediateRegister (.r8 .c)) .none
  | .rlcD => .plain 2 8 (.immediateRegister (.r8 .d)) .none
  | .rlcE => .plain 2 8 (.immediateRegister (.r8 .e)) .none
  | .rlcH => .plain 2 8 (.immediateRegister (.r8 .h)) .none
  | .rlcL => .plain 2 8 (.immediateRegister (.r8 .l)) .none
  | .rlcAtHl => .plain 2 16 (.addressRegister .hl) .none
  | .rlcA => .plain 2 8 (.immediateRegister (.r8 .a)) .none
  | .rrcB => .plain 2 8 (.immediateRegister (.r8 .b)) .none
  | .rrcC => .plain 2 8 (.immediateRegister (.r8 .c)) .none
  | .rrcD => .plain 2 8 (.immediateRegister (.r8 .d)) .none
  | .rrcE => .plain 2 8 (.immediateRegister (.r8 .e)) .none
  | .rrcH => .plain 2 8 (.immediateRegister (.r8 .h)) .none
  | .rrcL => .plain 2 8 (.immediateRegister (.r8 .l)) .none
  | .rrcAtHl => .plain 2 16 (.addressRegister .hl) .none
  | .rrcA => .plain 2 8 (.immediateRegister (.r8 .a)) .none
  | .rlB => .plain 2 8 (.immediateRegister (.r8 .b)) .none
  | .rlC => .plain 2 8 (.immediateRegister (.r8 .c)) .none
  | .rlD => .plain 2 8 (.immediateRegister (.r8 .d)) .none
  | .rlE => .plain 2 8 (.immediateRegister (.r8 .e)) .none
  | .rlH => .plain 2 8 (.immediateRegister (.r8 .h)) .none
  | .rlL => .plain 2 8 (.immediateRegister (.r8 .l)) .none
  | .rlAtHl => .plain 2 16 (.addressRegister .hl) .none
  | .rlA => .plain 2 8 (.immediateRegister (.r8 .a)) .none
  | .rrB => .plain 2 8 (.immediateRegister (.r8 .b)) .none
  | .rrC => .plain 2 8 (.immediateRegister (.r8 .c)) .none
  | .rrD => .plain 2 8 (.immediateRegister (.r8 .d)) .none
  | .rrE => .plain 2 8 (.immediateRegister (.r8 .e)) .none
  | .rrH => .plain 2 8 (.immediateRegister (.r8 .h)) .none
  | .rrL => .plain 2 8 (.immediateRegister (.r8 .l)) .none
  | .rrAtHl => .plain 2 16 (.addressRegister .hl) .none
  | .rrA => .plain 2 8 (.immediateRegister (.r8 .a)) .none
  | .slaB => .plain 2 8 (.immediateRegister (.r8 .b)) .none
  | .slaC => .plain 2 8 (.immediateRegister (.r8 .c)) .none
  | .slaD => .plain 2 8 (.immediateRegister (.r8 .d)) .none
  | .slaE => .plain 2 8 (.immediateRegister (.r8 .e)) .none
  | .slaH => .plain 2 8 (.immediateRegister (.r8 .h)) .none
  | .slaL => .plain 2 8 (.immediateRegister (.r8 .l)) .none
  | .slaAtHl => .plain 2 16 (.addressRegister .hl) .none
  | .slaA => .plain 2 8 (.immediateRegister (.r8 .a)) .none
  | .sraB => .plain 2 8 (.immediateRegister (.r8 .b)) .none
  | .sraC => .plain 2 8 (.immediateRegister (.r8 .c)) .none
  | .sraD => .plain 2 8 (.immediateRegister (.r8 .d)) .none
  | .sraE => .plain 2 8 (.immediateRegister (.r8 .e)) .none
  | .sraH => .plain 2 8 (.immediateRegister (.r8 .h)) .none
  | .sraL => .plain 2 8 (.immediateRegister (.r8 .l)) .none
  | .sraAtHl => .plain 2 16 (.addressRegister .hl) .none
  | .sraA => .plain 2 8 (.immediateRegister (.r8 .a)) .none
  | .swapB => .plain 2 8 (.immediateRegister (.r8 .b)) .none
  | .swapC => .plain 2 8 (.immediateRegister (.r8 .c)) .none
  | .swapD => .plain 2 8 (.immediateRegister (.r8 .d)) .none
  | .swapE => .plain 2 8 (.immediateRegister (.r8 .e)) .none
  | .swapH => .plain 2 8 (.immediateRegister (.r8 .h)) .none
  | .swapL => .plain 2 8 (.immediateRegister (.r8 .l)) .none
  | .swapAtHl => .plain 2 16 (.addressRegister .hl) .none
  | .swapA => .plain 2 8 (.immediateRegister (.r8 .a)) .none
  | .srlB => .plain 2 8 (.immediateRegister (.r8 .b)) .none
  | .srlC => .plain 2 8 (.immediateRegister (.r8 .c)) .none
  | .srlD => .plain 2 8 (.immediateRegister (.r8 .d)) .none
  | .srlE => .plain 2 8 (.immediateRegister (.r8 .e)) .none
  | .srlH => .plain 2 8 (.immediateRegister (.r8 .h)) .none
  | .srlL => .plain 2 8 (.immediateRegister (.r8 .l)) .none
  | .srlAtHl => .plain 2 16 (.addressRegister .hl) .none
  | .srlA => .plain 2 8 (.immediateRegister (.r8 .a)) .none
  | .bit0B => .plain 2 8 (.bitIndex 0) (.immediateRegister (.r8 .b))
  | .bit0C => .plain 2 8 (.bitIndex 0) (.immediateRegister (.r8 .c))
  | .bit0D => .plain 2 8 (.bitIndex 0) (.immediateRegister (.r8 .d))
  | .bit0E => .plain 2 8 (.bitIndex 0) (.immediateRegister (.r8 .e))
  | .bit0H => .plain 2 8 (.bitIndex 0) (.immediateRegister (.r8 .h))
  | .bit0L => .plain 2 8 (.bitIndex 0) (.immediateRegister (.r8 .l))
  | .bit0AtHl => .plain 2 12 (.bitIndex 0) (.addressRegister .hl)
  | .bit0A => .plain 2 8 (.bitIndex 0) (.immediateRegister (.r8 .a))
  | .bit1B => .plain 2 8 (.bitIndex 1) (.immediateRegister (.r8 .b))
  | .bit1C => .plain 2 8 (.bitIndex 1) (.immediateRegister (.r8 .c))
  | .bit1D => .plain 2 8 (.bitIndex 1) (.immediateRegister (.r8 .d))
  | .bit1E => .plain 2 8 (.bitIndex 1) (.immediateRegister (.r8 .e))
  | .bit1H => .plain 2 8 (.bitIndex 1) (.immediateRegister (.r8 .h))
  | .bit1L => .plain 2 8 (.bitIndex 1) (.immediateRegister (.r8 .l))
  | .bit1AtHl => .plain 2 12 (.bitIndex 1) (.addressRegister .hl)
  | .bit1A => .plain 2 8 (.bitIndex 1) (.immediateRegister (.r8 .a))
  | .bit2B => .plain 2 8 (.bitIndex 2) (.immediateRegister (.r8 .b))
  | .bit2C => .plain 2 8 (.bitIndex 2) (.immediateRegister (.r8 .c))
  | .bit2D => .plain 2 8 (.bitIndex 2) (.immediateRegister (.r8 .d))
  | .bit2E => .plain 2 8 (.bitIndex 2) (.immediateRegister (.r8 .e))
  | .bit2H => .plain 2 8 (.bitIndex 2) (.immediateRegister (.r8 .h))
  | .bit2L => .plain 2 8 (.bitIndex 2) (.immediateRegister (.r8 .l))
  | .bit2AtHl => .plain 2 12 (.bitIndex 2) (.addressRegister .hl)
  | .bit2A => .plain 2 8 (.bitIndex 2) (.immediateRegister (.r8 .a))
  | .bit3B => .plain 2 8 (.bitIndex 3) (.immediateRegister (.r8 .b))
  | .bit3C => .plain 2 8 (.bitIndex 3) (.immediateRegister (.r8 .c))
  | .bit3D => .plain 2 8 (.bitIndex 3) (.immediateRegister (.r8 .d))
  | .bit3E => .plain 2 8 (.bitIndex 3) (.immediateRegister (.r8 .e))
  | .bit3H => .plain 2 8 (.bitIndex 3) (.immediateRegister (.r8 .h))
  | .bit3L => .plain 2 8 (.bitIndex 3) (.immediateRegister (.r8 .l))
  | .bit3AtHl => .plain 2 12 (.bitIndex 3) (.addressRegister .hl)
  | .bit3A => .plain 2 8 (.bitIndex 3) (.immediateRegister (.r8 .a))
  | .bit4B => .plain 2 8 (.bitIndex 4) (.immediateRegister (.r8 .b))
  | .bit4C => .plain 2 8 (.bitIndex 4) (.immediateRegister (.r8 .c))
  | .bit4D => .plain 2 8 (.bitIndex 4) (.immediateRegister (.r8 .d))
  | .bit4E => .plain 2 8 (.bitIndex 4) (.immediateRegister (.r8 .e))
  | .bit4H => .plain 2 8 (.bitIndex 4) (.immediateRegister (.r8 .h))
  | .bit4L => .plain 2 8 (.bitIndex 4) (.immediateRegister (.r8 .l))
  | .bit4AtHl => .plain 2 12 (.bitIndex 4) (.addressRegister .hl)
  | .bit4A => .plain 2 8 (.bitIndex 4) (.immediateRegister (.r8 .a))
  | .bit5B => .plain 2 8 (.bitIndex 5) (.immediateRegister (.r8 .b))
  | .bit5C => .plain 2 8 (.bitIndex 5) (.immediateRegister (.r8 .c))
  | .bit5D => .plain 2 8 (.bitIndex 5) (.immediateRegister (.r8 .d))
  | .bit5E => .plain 2 8 (.bitIndex 5) (.immediateRegister (.r8 .e))
  | .bit5H => .plain 2 8 (.bitIndex 5) (.immediateRegister (.r8 .h))
  | .bit5L => .plain 2 8 (.bitIndex 5) (.immediateRegister (.r8 .l))
  | .bit5AtHl => .plain 2 12 (.bitIndex 5) (.addressRegister .hl)
  | .bit5A => .plain 2 8 (.bitIndex 5) (.immediateRegister (.r8 .a))
  | .bit6B => .plain 2 8 (.bitIndex 6) (.immediateRegister (.r8 .b))
  | .bit6C => .plain 2 8 (.bitIndex 6) (.immediateRegister (.r8 .c))
  | .bit6D => .plain 2 8 (.bitIndex 6) (.immediateRegister (.r8 .d))
  | .bit6E => .plain 2 8 (.bitIndex 6) (.immediateRegister (.r8 .e))
  | .bit6H => .plain 2 8 (.bitIndex 6) (.immediateRegister (.r8 .h))
  | .bit6L => .plain 2 8 (.bitIndex 6) (.immediateRegister (.r8 .l))
  | .bit6AtHl => .plain 2 12 (.bitIndex 6) (.addressRegister .hl)
  | .bit6A => .plain 2 8 (.bitIndex 6) (.immediateRegister (.r8 .a))
  | .bit7B => .plain 2 8 (.bitIndex 7) (.immediateRegister (.r8 .b))
  | .bit7C => .plain 2 8 (.bitIndex 7) (.immediateRegister (.r8 .c))
  | .bit7D => .plain 2 8 (.bitIndex 7) (.immediateRegister (.r8 .d))
  | .bit7E => .plain 2 8 (.bitIndex 7) (.immediateRegister (.r8 .e))
  | .bit7H => .plain 2 8 (.bitIndex 7) (.immediateRegister (.r8 .h))
  | .bit7L => .plain 2 8 (.bitIndex 7) (.immediateRegister (.r8 .l))
  | .bit7AtHl => .plain 2 12 (.bitIndex 7) (.addressRegister .hl)
  | .bit7A => .plain 2 8 (.bitIndex 7) (.immediateRegister (.r8 .a))
  | .res0B => .plain 2 8 (.bitIndex 0) (.immediateRegister (.r8 .b))
  | .res0C => .plain 2 8 (.bitIndex 0) (.immediateRegister (.r8 .c))
  | .res0D => .plain 2 8 (.bitIndex 0) (.immediateRegister (.r8 .d))
  | .res0E => .plain 2 8 (.bitIndex 0) (.immediateRegister (.r8 .e))
  | .res0H => .plain 2 8 (.bitIndex 0) (.immediateRegister (.r8 .h))
  | .res0L => .plain 2 8 (.bitIndex 0) (.immediateRegister (.r8 .l))
  | .res0AtHl => .plain 2 16 (.bitIndex 0) (.addressRegister .hl)
  | .res0A => .plain 2 8 (.bitIndex 0) (.immediateRegister (.r8 .a))
  | .res1B => .plain 2 8 (.bitIndex 1) (.immediateRegister (.r8 .b))
  | .res1C => .plain 2 8 (.bitIndex 1) (.immediateRegister (.r8 .c))
  | .res1D => .plain 2 8 (.bitIndex 1) (.immediateRegister (.r8 .d))
  | .res1E => .plain 2 8 (.bitIndex 1) (.immediateRegister (.r8 .e))
  | .res1H => .plain 2 8 (.bitIndex 1) (.immediateRegister (.r8 .h))
  | .res1L => .plain 2 8 (.bitIndex 1) (.immediateRegister (.r8 .l))
  | .res1AtHl => .plain 2 16 (.bitIndex 1) (.addressRegister .hl)
  | .res1A => .plain 2 8 (.bitIndex 1) (.immediateRegister (.r8 .a))
  | .res2B => .plain 2 8 (.bitIndex 2) (.immediateRegister (.r8 .b))
  | .res2C => .plain 2 8 (.bitIndex 2) (.immediateRegister (.r8 .c))
  | .res2D => .plain 2 8 (.bitIndex 2) (.immediateRegister (.r8 .d))
  | .res2E => .plain 2 8 (.bitIndex 2) (.immediateRegister (.r8 .e))
  | .res2H => .plain 2 8 (.bitIndex 2) (.immediateRegister (.r8 .h))
  | .res2L => .plain 2 8 (.bitIndex 2) (.immediateRegister (.r8 .l))
  | .res2AtHl => .plain 2 16 (.bitIndex 2) (.addressRegister .hl)
  | .res2A => .plain 2 8 (.bitIndex 2) (.immediateRegister (.r8 .a))
  | .res3B => .plain 2 8 (.bitIndex 3) (.immediateRegister (.r8 .b))
  | .res3C => .plain 2 8 (.bitIndex 3) (.immediateRegister (.r8 .c))
  | .res3D => .plain 2 8 (.bitIndex 3) (.immediateRegister (.r8 .d))
  | .res3E => .plain 2 8 (.bitIndex 3) (.immediateRegister (.r8 .e))
  | .res3H => .plain 2 8 (.bitIndex 3) (.immediateRegister (.r8 .h))
  | .res3L => .plain 2 8 (.bitIndex 3) (.immediateRegister (.r8 .l))
  | .res3AtHl => .plain 2 16 (.bitIndex 3) (.addressRegister .hl)
  | .res3A => .plain 2 8 (.bitIndex 3) (.immediateRegister (.r8 .a))
  | .res4B => .plain 2 8 (.bitIndex 4) (.immediateRegister (.r8 .b))
  | .res4C => .plain 2 8 (.bitIndex 4) (.immediateRegister (.r8 .c))
  | .res4D => .plain 2 8 (.bitIndex 4) (.immediateRegister (.r8 .d))
  | .res4E => .plain 2 8 (.bitIndex 4) (.immediateRegister (.r8 .e))
  | .res4H => .plain 2 8 (.bitIndex 4) (.immediateRegister (.r8 .h))
  | .res4L => .plain 2 8 (.bitIndex 4) (.immediateRegister (.r8 .l))
  | .res4AtHl => .plain 2 16 (.bitIndex 4) (.addressRegister .hl)
  | .res4A => .plain 2 8 (.bitIndex 4) (.immediateRegister (.r8 .a))
  | .res5B => .plain 2 8 (.bitIndex 5) (.immediateRegister (.r8 .b))
  | .res5C => .plain 2 8 (.bitIndex 5) (.immediateRegister (.r8 .c))
  | .res5D => .plain 2 8 (.bitIndex 5) (.immediateRegister (.r8 .d))
  | .res5E => .plain 2 8 (.bitIndex 5) (.immediateRegister (.r8 .e))
  | .res5H => .plain 2 8 (.bitIndex 5) (.immediateRegister (.r8 .h))
  | .res5L => .plain 2 8 (.bitIndex 5) (.immediateRegister (.r8 .l))
  | .res5AtHl => .plain 2 16 (.bitIndex 5) (.addressRegister .hl)
  | .res5A => .plain 2 8 (.bitIndex 5) (.immediateRegister (.r8 .a))
  | .res6B => .plain 2 8 (.bitIndex 6) (.immediateRegister (.r8 .b))
  | .res6C => .plain 2 8 (.bitIndex 6) (.immediateRegister (.r8 .c))
  | .res6D => .plain 2 8 (.bitIndex 6) (.immediateRegister (.r8 .d))
  | .res6E => .plain 2 8 (.bitIndex 6) (.immediateRegister (.r8 .e))
  | .res6H => .plain 2 8 (.bitIndex 6) (.immediateRegister (.r8 .h))
  | .res6L => .plain 2 8 (.bitIndex 6) (.immediateRegister (.r8 .l))
  | .res6AtHl => .plain 2 16 (.bitIndex 6) (.addressRegister .hl)
  | .res6A => .plain 2 8 (.bitIndex 6) (.immediateRegister (.r8 .a))
  | .res7B => .plain 2 8 (.bitIndex 7) (.immediateRegister (.r8 .b))
  | .res7C => .plain 2 8 (.bitIndex 7) (.immediateRegister (.r8 .c))
  | .res7D => .plain 2 8 (.bitIndex 7) (.immediateRegister (.r8 .d))
  | .res7E => .plain 2 8 (.bitIndex 7) (.immediateRegister (.r8 .e))
  | .res7H => .plain 2 8 (.bitIndex 7) (.immediateRegister (.r8 .h))
  | .res7L => .plain 2 8 (.bitIndex 7) (.immediateRegister (.r8 .l))
  | .res7AtHl => .plain 2 16 (.bitIndex 7) (.addressRegister .hl)
  | .res7A => .plain 2 8 (.bitIndex 7) (.immediateRegister (.r8 .a))
  | .set0B => .plain 2 8 (.bitIndex 0) (.immediateRegister (.r8 .b))
  | .set0C => .plain 2 8 (.bitIndex 0) (.immediateRegister (.r8 .c))
  | .set0D => .plain 2 8 (.bitIndex 0) (.immediateRegister (.r8 .d))
  | .set0E => .plain 2 8 (.bitIndex 0) (.immediateRegister (.r8 .e))
  | .set0H => .plain 2 8 (.bitIndex 0) (.immediateRegister (.r8 .h))
  | .set0L => .plain 2 8 (.bitIndex 0) (.immediateRegister (.r8 .l))
  | .set0AtHl => .plain 2 16 (.bitIndex 0) (.addressRegister .hl)
  | .set0A => .plain 2 8 (.bitIndex 0) (.immediateRegister (.r8 .a))
  | .set1B => .plain 2 8 (.bitIndex 1) (.immediateRegister (.r8 .b))
  | .set1C => .plain 2 8 (.bitIndex 1) (.immediateRegister (.r8 .c))
  | .set1D => .plain 2 8 (.bitIndex 1) (.immediateRegister (.r8 .d))
  | .set1E => .plain 2 8 (.bitIndex 1) (.immediateRegister (.r8 .e))
  | .set1H => .plain 2 8 (.bitIndex 1) (.immediateRegister (.r8 .h))
  | .set1L => .plain 2 8 (.bitIndex 1) (.immediateRegister (.r8 .l))
  | .set1AtHl => .plain 2 16 (.bitIndex 1) (.addressRegister .hl)
  | .set1A => .plain 2 8 (.bitIndex 1) (.immediateRegister (.r8 .a))
  | .set2B => .plain 2 8 (.bitIndex 2) (.immediateRegister (.r8 .b))
  | .set2C => .plain 2 8 (.bitIndex 2) (.immediateRegister (.r8 .c))
  | .set2D => .plain 2 8 (.bitIndex 2) (.immediateRegister (.r8 .d))
  | .set2E => .plain 2 8 (.bitIndex 2) (.immediateRegister (.r8 .e))
  | .set2H => .plain 2 8 (.bitIndex 2) (.immediateRegister (.r8 .h))
  | .set2L => .plain 2 8 (.bitIndex 2) (.immediateRegister (.r8 .l))
  | .set2AtHl => .plain 2 16 (.bitIndex 2) (.addressRegister .hl)
  | .set2A => .plain 2 8 (.bitIndex 2) (.immediateRegister (.r8 .a))
  | .set3B => .plain 2 8 (.bitIndex 3) (.immediateRegister (.r8 .b))
  | .set3C => .plain 2 8 (.bitIndex 3) (.immediateRegister (.r8 .c))
  | .set3D => .plain 2 8 (.bitIndex 3) (.immediateRegister (.r8 .d))
  | .set3E => .plain 2 8 (.bitIndex 3) (.immediateRegister (.r8 .e))
  | .set3H => .plain 2 8 (.bitIndex 3) (.immediateRegister (.r8 .h))
  | .set3L => .plain 2 8 (.bitIndex 3) (.immediateRegister (.r8 .l))
  | .set3AtHl => .plain 2 16 (.bitIndex 3) (.addressRegister .hl)
  | .set3A => .plain 2 8 (.bitIndex 3) (.immediateRegister (.r8 .a))
  | .set4B => .plain 2 8 (.bitIndex 4) (.immediateRegister (.r8 .b))
  | .set4C => .plain 2 8 (.bitIndex 4) (.immediateRegister (.r8 .c))
  | .set4D => .plain 2 8 (.bitIndex 4) (.immediateRegister (.r8 .d))
  | .set4E => .plain 2 8 (.bitIndex 4) (.immediateRegister (.r8 .e))
  | .set4H => .plain 2 8 (.bitIndex 4) (.immediateRegister (.r8 .h))
  | .set4L => .plain 2 8 (.bitIndex 4) (.immediateRegister (.r8 .l))
  | .set4AtHl => .plain 2 16 (.bitIndex 4) (.addressRegister .hl)
  | .set4A => .plain 2 8 (.bitIndex 4) (.immediateRegister (.r8 .a))
  | .set5B => .plain 2 8 (.bitIndex 5) (.immediateRegister (.r8 .b))
  | .set5C => .plain 2 8 (.bitIndex 5) (.immediateRegister (.r8 .c))
  | .set5D => .plain 2 8 (.bitIndex 5) (.immediateRegister (.r8 .d))
  | .set5E => .plain 2 8 (.bitIndex 5) (.immediateRegister (.r8 .e))
  | .set5H => .plain 2 8 (.bitIndex 5) (.immediateRegister (.r8 .h))
  | .set5L => .plain 2 8 (.bitIndex 5) (.immediateRegister (.r8 .l))
  | .set5AtHl => .plain 2 16 (.bitIndex 5) (.addressRegister .hl)
  | .set5A => .plain 2 8 (.bitIndex 5) (.immediateRegister (.r8 .a))
  | .set6B => .plain 2 8 (.bitIndex 6) (.immediateRegister (.r8 .b))
  | .set6C => .plain 2 8 (.bitIndex 6) (.immediateRegister (.r8 .c))
  | .set6D => .plain 2 8 (.bitIndex 6) (.immediateRegister (.r8 .d))
  | .set6E => .plain 2 8 (.bitIndex 6) (.immediateRegister (.r8 .e))
  | .set6H => .plain 2 8 (.bitIndex 6) (.immediateRegister (.r8 .h))
  | .set6L => .plain 2 8 (.bitIndex 6) (.immediateRegister (.r8 .l))
  | .set6AtHl => .plain 2 16 (.bitIndex 6) (.addressRegister .hl)
  | .set6A => .plain 2 8 (.bitIndex 6) (.immediateRegister (.r8 .a))
  | .set7B => .plain 2 8 (.bitIndex 7) (.immediateRegister (.r8 .b))
  | .set7C => .plain 2 8 (.bitIndex 7) (.immediateRegister (.r8 .c))
  | .set7D => .plain 2 8 (.bitIndex 7) (.immediateRegister (.r8 .d))
  | .set7E => .plain 2 8 (.bitIndex 7) (.immediateRegister (.r8 .e))
  | .set7H => .plain 2 8 (.bitIndex 7) (.immediateRegister (.r8 .h))
  | .set7L => .plain 2 8 (.bitIndex 7) (.immediateRegister (.r8 .l))
  | .set7AtHl => .plain 2 16 (.bitIndex 7) (.addressRegister .hl)
  | .set7A => .plain 2 8 (.bitIndex 7) (.immediateRegister (.r8 .a))

end Sys2Proof.Machine
end

