-- ==== Sys2Proof/Safety.lean ====
section
/-! DEFINITION. What counts as a sound state, in the terms the statements use: the invariant that every system step
keeps. It collects what the spec says of "every reachable state" (rules R21, R33, R34, R43, R210, R214, R215, R224). -/

namespace Sys2Proof.Machine

/-! ### Operand codes, as the encodings number them -/

/-- The code `i` of `r8[i]` (rule R68). -/
def codeOfReg (r : Reg8) : Nat :=
  match r with
  | .b => 0
  | .c => 1
  | .d => 2
  | .e => 3
  | .h => 4
  | .l => 5
  | .a => 7

/-- The code `p` of `r16[p]` (rule R69). -/
def codeOfPair (p : Reg16) : Nat :=
  match p with
  | .bc => 0
  | .de => 1
  | .hl => 2
  | .sp => 3

/-- The code `p` of `r16stk[p]` (rule R69). -/
def codeOfStk (p : RegStk) : Nat :=
  match p with
  | .bc => 0
  | .de => 1
  | .hl => 2
  | .af => 3

/-- The condition code (rule R70). -/
def codeOfCond (cc : Cond) : Nat :=
  match cc with
  | .nz => 0
  | .z => 1
  | .nc => 2
  | .c => 3

/-- The ALU operation code (rule R71). -/
def codeOfAlu (op : AluOp) : Nat :=
  match op with
  | .add => 0
  | .adc => 1
  | .sub => 2
  | .sbc => 3
  | .and => 4
  | .xor => 5
  | .or => 6
  | .cp => 7

/-- The prefixed rotate code (rule R72). -/
def codeOfRot (op : RotOp) : Nat :=
  match op with
  | .rlc => 0
  | .rrc => 1
  | .rl => 2
  | .rr => 3
  | .sla => 4
  | .sra => 5
  | .swap => 6
  | .srl => 7

/-- A byte given as a number. -/
def byteOf (n : Nat) : Byte := BitVec.ofNat 8 n

/-! ### The shape of a result -/

/-- The state after an instruction of `len` bytes that lets PC advance and takes `cycles` T-cycles (rules R86, R87). -/
def State.done (s : State) (len cycles : Nat) : State :=
  { s with pc := s.pc + BitVec.ofNat 16 len, cycles := cycles, skip := false }

/-- The state after a transfer of control that takes `cycles` T-cycles (rules R86, R87). -/
def State.goto (s : State) (target : Word) (cycles : Nat) : State :=
  { s with pc := target, cycles := cycles, skip := false }

/-- The flag byte with Z, N, Hf and Cf in bits 7 to 4 (rule R20). -/
def flagByte (z n h c : Bool) : Byte :=
  BitVec.ofNat 8 (128 * z.toNat + 64 * n.toNat + 32 * h.toNat + 16 * c.toNat)

/-- The register file with the four flags given and the other bits of F kept (rule R21). -/
def RegFile.flags (rf : RegFile) (z n h c : Bool) : RegFile := { rf with f := flagByte z n h c ||| (rf.f &&& 0x0F#8) }

/-! ### Results in closed form -/

/-- A + v + cin in 9 bits, with its flags (rules R90, R92). -/
def RegFile.afterAdd (rf : RegFile) (v : Byte) (cin : Nat) : RegFile :=
  let sum := rf.a.toNat + v.toNat + cin
  { rf with a := byteOf sum }.flags (decide (sum % 256 = 0)) false
    (decide (rf.a.toNat % 16 + v.toNat % 16 + cin > 15)) (decide (sum > 255))

/-- The flags of A - v - cin (rules R91, R92); A is kept. -/
def RegFile.afterCompare (rf : RegFile) (v : Byte) (cin : Nat) : RegFile :=
  rf.flags (decide ((rf.a.toNat + 512 - v.toNat - cin) % 256 = 0)) true
    (decide (rf.a.toNat % 16 < v.toNat % 16 + cin)) (decide (rf.a.toNat < v.toNat + cin))

/-- A - v - cin, with its flags (rules R91, R92). -/
def RegFile.afterSub (rf : RegFile) (v : Byte) (cin : Nat) : RegFile :=
  { rf.afterCompare v cin with a := byteOf (rf.a.toNat + 512 - v.toNat - cin) }

/-- A logic result `r` in A, with Hf as given (rules R135, R138, R141). -/
def RegFile.afterLogic (rf : RegFile) (r : Byte) (h : Bool) : RegFile :=
  { rf with a := r }.flags (decide (r = 0)) false h false

/-- DAA by decimal digits (rule R151). -/
def RegFile.afterDaa (rf : RegFile) : RegFile :=
  let a := rf.a.toNat
  let n := flagN rf.f
  let high : Bool := flagC rf.f || (!n && decide (a > 0x99))
  let low : Bool := flagH rf.f || (!n && decide (a % 16 > 9))
  let adj := 0x60 * high.toNat + 0x06 * low.toNat
  let r := if n then byteOf (a + 256 - adj) else byteOf (a + adj)
  { rf with a := r }.flags (decide (r = 0)) n false high

/-- Each rotate or shift as arithmetic on the byte's number: the result and the evicted bit (rules R161 to R180). -/
def rotClosed (op : RotOp) (v : Byte) (cin : Bool) : Byte × Bool :=
  let n := v.toNat
  match op with
  | .rlc => (byteOf (2 * n + n / 128), decide (n / 128 = 1))
  | .rrc => (byteOf (n / 2 + 128 * (n % 2)), decide (n % 2 = 1))
  | .rl => (byteOf (2 * n + cin.toNat), decide (n / 128 = 1))
  | .rr => (byteOf (n / 2 + 128 * cin.toNat), decide (n % 2 = 1))
  | .sla => (byteOf (2 * n), decide (n / 128 = 1))
  | .sra => (byteOf (n / 2 + 128 * (n / 128)), decide (n % 2 = 1))
  | .swap => (byteOf (16 * (n % 16) + n / 16), false)
  | .srl => (byteOf (n / 2), decide (n % 2 = 1))

/-- The binary-coded decimal byte of a number below 100. -/
def bcd (n : Nat) : Byte := byteOf (16 * (n / 10) + n % 10)

/-! ### The background picture -/

/-- The colour of the background at column `x` of the current line, for a line that fetches from tile-map column
`col` and discards `d` pixels (rules R217 to R221): the map entry of the pixel's tile, the two plane bytes of its row,
the two bits of its column, through the palette. -/
def State.background (s : State) (col : BitVec 5) (d x : Nat) : Color :=
  let row := (s.ly.toNat + s.scy.toNat) % 256
  let map := if s.lcdc.getLsbD 3 then 0x9C00 else 0x9800
  let tile := (s.readU8 (BitVec.ofNat 16 (map + 32 * (row / 8) + (col.toNat + (x + d) / 8) % 32))).toNat
  let base :=
    if s.lcdc.getLsbD 4 then 0x8000 + 16 * tile
    else if tile < 128 then 0x9000 + 16 * tile else 0x8000 + 16 * tile
  let lo := s.readU8 (BitVec.ofNat 16 (base + 2 * (row % 8)))
  let hi := s.readU8 (BitVec.ofNat 16 (base + 2 * (row % 8) + 1))
  let bit := 7 - (x + d) % 8
  paletteColor s.ppu.palette (hi.getLsbD bit) (lo.getLsbD bit)

/-! ### What a store can change -/

/-- A store at `w` moves what `a` reads from: the switchable bank after a bank select (rule R52), the boot-ROM overlay
after the unmap (rule R41). -/
def remaps (w a : Word) : Prop :=
  (0x2000 ≤ w.toNat ∧ w.toNat ≤ 0x3FFF ∧ 0x4000 ≤ a.toNat ∧ a.toNat ≤ 0x7FFF) ∨ (w = 0xFF50#16 ∧ a.toNat ≤ 0x00FF)

/-- `a` lies outside what a store at `w` can change: it reads from another byte of storage than `w`, and it is not
remapped. -/
def State.outside (s : State) (w a : Word) : Prop := s.slot a ≠ s.slot w ∧ ¬remaps w a

/-- A list of CPU stores performed in order (rule R51). -/
def State.storeAll (s : State) : List (Word × Byte) → State
  | [] => s
  | (w, v) :: rest => (s.writeU8 w v).storeAll rest

/-- `a` lies outside what a list of stores, performed in order, can change. -/
def State.outsideAll (s : State) : List (Word × Byte) → Word → Prop
  | [], _ => True
  | (w, v) :: rest, a => s.outside w a ∧ (s.writeU8 w v).outsideAll rest a

/-- The two bytes a push of `v` stores, in order (rule R61): the high byte at SP - 1, the low byte at SP - 2. -/
def State.pushed (s : State) (v : Word) : List (Word × Byte) := [(s.sp - 1, hiByte v), (s.sp - 2, loByte v)]

/-- The byte a prefixed instruction stores, by the fields of its second byte (rules R72, R159, R184, R186). -/
def State.prefixedStores (s : State) (op : Byte) : List (Word × Byte) :=
  if fieldZ op ≠ 6 then []
  else
    match fieldX op with
    | 0 => [(s.hl, (rotEval (RotOp.ofCode (fieldY op)) (s.readU8 s.hl) (flagC s.regs.f)).1)]
    | 1 => []
    | 2 => [(s.hl, clearBit (bitIndex op) (s.readU8 s.hl))]
    | _ => [(s.hl, setBit (bitIndex op) (s.readU8 s.hl))]

/-- The bytes an instruction stores, in order, as its rule's `MemWrite` and `Push16` say: the forms that store are
listed, every other form stores nothing. -/
def State.stores (s : State) (i : Instr) : List (Word × Byte) :=
  match i with
  | .ldAtBcA => [(s.regs.bc, s.regs.a)]
  | .ldAtA16Sp nn => [(nn, loByte s.sp), (nn + 1, hiByte s.sp)]
  | .ldAtDeA => [(s.regs.de, s.regs.a)]
  | .ldAtHlIncA => [(s.hl, s.regs.a)]
  | .ldAtHlDecA => [(s.hl, s.regs.a)]
  | .incAtHl => [(s.hl, s.readU8 s.hl + 1)]
  | .decAtHl => [(s.hl, s.readU8 s.hl - 1)]
  | .ldAtHlN8 n => [(s.hl, n)]
  | .ldAtHlB => [(s.hl, s.reg .b)]
  | .ldAtHlC => [(s.hl, s.reg .c)]
  | .ldAtHlD => [(s.hl, s.reg .d)]
  | .ldAtHlE => [(s.hl, s.reg .e)]
  | .ldAtHlH => [(s.hl, s.reg .h)]
  | .ldAtHlL => [(s.hl, s.reg .l)]
  | .ldAtHlA => [(s.hl, s.reg .a)]
  | .callNzA16 _ => if condHolds .nz s.regs.f then s.pushed (s.pc + 3) else []
  | .pushBc => s.pushed (s.stk .bc)
  | .rst00 => s.pushed (s.pc + 1)
  | .prefixCb op => s.prefixedStores op
  | .callZA16 _ => if condHolds .z s.regs.f then s.pushed (s.pc + 3) else []
  | .callA16 _ => s.pushed (s.pc + 3)
  | .rst08 => s.pushed (s.pc + 1)
  | .callNcA16 _ => if condHolds .nc s.regs.f then s.pushed (s.pc + 3) else []
  | .pushDe => s.pushed (s.stk .de)
  | .rst10 => s.pushed (s.pc + 1)
  | .callCA16 _ => if condHolds .c s.regs.f then s.pushed (s.pc + 3) else []
  | .rst18 => s.pushed (s.pc + 1)
  | .ldhAtA8A n => [(highPage n, s.regs.a)]
  | .ldAtCA => [(s.ioAddr, s.regs.a)]
  | .pushHl => s.pushed (s.stk .hl)
  | .rst20 => s.pushed (s.pc + 1)
  | .ldAtA16A nn => [(nn, s.regs.a)]
  | .rst28 => s.pushed (s.pc + 1)
  | .pushAf => s.pushed (s.stk .af)
  | .rst30 => s.pushed (s.pc + 1)
  | .rst38 => s.pushed (s.pc + 1)
  | .rlcAtHl => [(s.hl, (rotEval .rlc (s.readU8 s.hl) (flagC s.regs.f)).1)]
  | .rrcAtHl => [(s.hl, (rotEval .rrc (s.readU8 s.hl) (flagC s.regs.f)).1)]
  | .rlAtHl => [(s.hl, (rotEval .rl (s.readU8 s.hl) (flagC s.regs.f)).1)]
  | .rrAtHl => [(s.hl, (rotEval .rr (s.readU8 s.hl) (flagC s.regs.f)).1)]
  | .slaAtHl => [(s.hl, (rotEval .sla (s.readU8 s.hl) (flagC s.regs.f)).1)]
  | .sraAtHl => [(s.hl, (rotEval .sra (s.readU8 s.hl) (flagC s.regs.f)).1)]
  | .swapAtHl => [(s.hl, (rotEval .swap (s.readU8 s.hl) (flagC s.regs.f)).1)]
  | .srlAtHl => [(s.hl, (rotEval .srl (s.readU8 s.hl) (flagC s.regs.f)).1)]
  | .res0AtHl => [(s.hl, clearBit 0 (s.readU8 s.hl))]
  | .res1AtHl => [(s.hl, clearBit 1 (s.readU8 s.hl))]
  | .res2AtHl => [(s.hl, clearBit 2 (s.readU8 s.hl))]
  | .res3AtHl => [(s.hl, clearBit 3 (s.readU8 s.hl))]
  | .res4AtHl => [(s.hl, clearBit 4 (s.readU8 s.hl))]
  | .res5AtHl => [(s.hl, clearBit 5 (s.readU8 s.hl))]
  | .res6AtHl => [(s.hl, clearBit 6 (s.readU8 s.hl))]
  | .res7AtHl => [(s.hl, clearBit 7 (s.readU8 s.hl))]
  | .set0AtHl => [(s.hl, setBit 0 (s.readU8 s.hl))]
  | .set1AtHl => [(s.hl, setBit 1 (s.readU8 s.hl))]
  | .set2AtHl => [(s.hl, setBit 2 (s.readU8 s.hl))]
  | .set3AtHl => [(s.hl, setBit 3 (s.readU8 s.hl))]
  | .set4AtHl => [(s.hl, setBit 4 (s.readU8 s.hl))]
  | .set5AtHl => [(s.hl, setBit 5 (s.readU8 s.hl))]
  | .set6AtHl => [(s.hl, setBit 6 (s.readU8 s.hl))]
  | .set7AtHl => [(s.hl, setBit 7 (s.readU8 s.hl))]
  | _ => []

/-- An address that keeps what a push writes there (rule R62): not ROM, the gap, DIV, STAT or LY. -/
def keepsStackByte (a : Word) : Prop :=
  0x8000 ≤ a.toNat ∧ ¬(0xFEA0 ≤ a.toNat ∧ a.toNat ≤ 0xFEFF) ∧ a ≠ 0xFF04#16 ∧ a ≠ 0xFF41#16 ∧ a ≠ 0xFF44#16

/-! ### The invariant -/

/-- Every region's storage is in canonical form and inside its region, and the bank register holds 1..31 (rules R34,
R52). -/
structure Bus.Sound (b : Bus) (banks : Nat) : Prop where
  rom : b.rom.wf romBlank (banks * Config.bankSize) = true
  bootRom : b.bootRom.wf blankByte Config.bootRomSize = true
  vram : b.vram.wf blankByte Config.ramSize = true
  eram : b.eram.wf blankByte Config.ramSize = true
  wram : b.wram.wf blankByte Config.ramSize = true
  oam : b.oam.wf blankByte Config.oamSize = true
  io : b.io.wf blankByte Config.ioSize = true
  hram : b.hram.wf blankByte Config.hramSize = true
  romBank : b.romBank ≠ 0#5

/-- The fetcher's stage after `n` fetcher steps of a line (rule R216). -/
def stageAfter (n : Nat) : FetchStage :=
  match n % 4 with
  | 0 => .getTileNumber
  | 1 => .tileDataLow
  | 2 => .tileDataHigh
  | _ => .push

/-- How many pixels the FIFO holds after `k` Drawing ticks of a line (rules R220, R224). -/
def fifoAfter (k : Nat) : Nat := if k < 8 then 0 else 7 - k % 8

/-- The PPU after `k` Drawing ticks of a line that began with `d` pixels to discard (rules R213, R216, R220, R221,
R224): `k - 7` pixels have been popped, the first `d` of them dropped. -/
structure Ppu.Drawing (p : Ppu) (k d : Nat) : Prop where
  div : p.fetchDiv = decide (k % 2 = 1)
  stage : p.fetcherState = stageAfter (k / 2)
  fifo : p.fifo.length = fifoAfter k
  discard : p.discard.toNat = d - (k - 7)
  column : p.scanlineX = (k - 7) - d
  unfinished : p.scanlineX < Config.screenW

/-- Where in a line the PPU can be, by its mode (rules R43, R209, R211 to R215, R224). -/
def Ppu.inLine (p : Ppu) : Prop :=
  match p.mode with
  | .oamScan =>
    p.lineCycles < Config.oamScanCycles ∧ p.fifo = [] ∧ p.scanlineX = 0 ∧ p.fetcherState = .getTileNumber ∧
      p.fetchDiv = false
  | .drawingPixels =>
    Config.oamScanCycles ≤ p.lineCycles ∧ ∃ d, d ≤ 7 ∧ p.Drawing (p.lineCycles - Config.oamScanCycles) d
  | .hBlank =>
    247 ≤ p.lineCycles ∧ p.lineCycles < Config.lineCycles ∧ p.fifo.length ≤ 7 ∧ p.scanlineX = Config.screenW
  | .vBlank => p.lineCycles < Config.lineCycles ∧ p.fifo = [] ∧ p.scanlineX = 0

/-- Which lines a mode can be on (rules R38, R214, R215): 144 to 153 in VBlank, below 144 otherwise. -/
def Mode.onLine (m : Mode) (ly : Nat) : Prop :=
  match m with
  | .vBlank => Config.visibleLines ≤ ly ∧ ly < Config.totalLines
  | .oamScan | .drawingPixels | .hBlank => ly < Config.visibleLines

/-- The invariant of the machine. -/
structure State.Inv (s : State) : Prop where
  /-- `rom_bank_count` is at least 1 (rule R7) -/
  config : s.config.valid
  /-- F[3:0] = 0 (rule R21) -/
  flags : s.regs.f &&& 0x0F#8 = 0#8
  /-- the control-flow signal does not survive a step (rule R33) -/
  skip : s.skip = false
  bus : s.bus.Sound s.config.romBankCount
  /-- STAT[1:0] mirrors the mode (rules R36, R210) -/
  stat : s.stat &&& 0x03#8 = s.ppu.mode.code
  ly : s.ppu.mode.onLine (s.io 0x44).toNat
  line : s.ppu.inLine
  frameBuffer : Sparse.wf blankColor (Config.screenW * Config.screenH) s.ppu.frameBuffer = true

/-- A state a run can be in: what building gives for a legal configuration, and what a step answers from one. -/
inductive State.Reachable : State → Prop where
  | build (b : Setup) (h : b.config.valid) : State.Reachable (State.build b)
  | step (s t : State) (h : State.Reachable s) (e : step s = .next t) : State.Reachable t

end Sys2Proof.Machine
end

