-- ==== Sys2Proof/Certificates/Slice0/Obligations.lean ====
section
/-! DEFINITION. The statements for the provers. Each docstring names the rule it formalises. Where a statement gives an
instruction's result as an equation, that equation is also its completion: the instruction answers a next state in
every state, and every part of the state the equation does not name is unchanged. -/

open Sys2Proof Sys2Proof.Machine

/-! ### 8-bit loads -/

/-- R98, R99, R100: LD r8,r8', LD r8,n8 and LD r8,[HL], their bytes and their results; the source is read before the
destination is written, so LD H,[HL] reads at the old HL. -/
def Obligations.RegisterLoads : Prop :=
  ∀ (dst r : Reg8) (n : Byte) (s : State),
    encode (mkLdRegReg dst r) = [byteOf (0x40 + 8 * codeOfReg dst + codeOfReg r)] ∧
    exec (mkLdRegReg dst r) s = .next { s.done 1 4 with regs := s.regs.put dst (s.regs.get r) } ∧
    encode (mkLdRegImm dst n) = [byteOf (0x06 + 8 * codeOfReg dst), n] ∧
    exec (mkLdRegImm dst n) s = .next { s.done 2 8 with regs := s.regs.put dst n } ∧
    encode (mkLdRegAtHl dst) = [byteOf (0x46 + 8 * codeOfReg dst)] ∧
    exec (mkLdRegAtHl dst) s = .next { s.done 1 8 with regs := s.regs.put dst (s.readU8 s.regs.hl) }

/-- R101, R102: LD [HL],r8 and LD [HL],n8 store one byte at HL through the CPU's write and change no register but
PC. -/
def Obligations.StoresAtHl : Prop :=
  ∀ (r : Reg8) (n : Byte) (s : State),
    encode (mkLdAtHlReg r) = [byteOf (0x70 + codeOfReg r)] ∧
    exec (mkLdAtHlReg r) s = .next ((s.writeU8 s.regs.hl (s.regs.get r)).done 1 8) ∧
    encode (.ldAtHlN8 n) = [0x36, n] ∧
    exec (.ldAtHlN8 n) s = .next ((s.writeU8 s.regs.hl n).done 2 12)

/-- R103, R105, R106, R109, R111, R113: the loads of A from memory; [HL+] and [HL-] step HL after the read. -/
def Obligations.AccumulatorLoads : Prop :=
  ∀ (n : Byte) (nn : Word) (s : State),
    [encode .ldAAtBc, encode .ldAAtDe, encode .ldAAtHlInc, encode .ldAAtHlDec] = [[0x0A], [0x1A], [0x2A], [0x3A]] ∧
    [encode (.ldAAtA16 nn), encode (.ldhAAtA8 n), encode .ldAAtC] = [[0xFA, loByte nn, hiByte nn], [0xF0, n], [0xF2]] ∧
    exec .ldAAtBc s = .next { s.done 1 8 with regs := { s.regs with a := s.readU8 s.regs.bc } } ∧
    exec .ldAAtDe s = .next { s.done 1 8 with regs := { s.regs with a := s.readU8 s.regs.de } } ∧
    exec .ldAAtHlInc s =
      .next { s.done 1 8 with regs := { s.regs with a := s.readU8 s.regs.hl }.putHl (s.regs.hl + 1) } ∧
    exec .ldAAtHlDec s =
      .next { s.done 1 8 with regs := { s.regs with a := s.readU8 s.regs.hl }.putHl (s.regs.hl - 1) } ∧
    exec (.ldAAtA16 nn) s = .next { s.done 3 16 with regs := { s.regs with a := s.readU8 nn } } ∧
    exec (.ldhAAtA8 n) s =
      .next { s.done 2 12 with regs := { s.regs with a := s.readU8 (0xFF00#16 + n.setWidth 16) } } ∧
    exec .ldAAtC s = .next { s.done 1 8 with regs := { s.regs with a := s.readU8 (0xFF00#16 + s.regs.c.setWidth 16) } }

/-- R104, R107, R108, R110, R112, R114: the stores of A to memory; [HL+] and [HL-] step HL after the store. -/
def Obligations.AccumulatorStores : Prop :=
  ∀ (n : Byte) (nn : Word) (s : State),
    [encode .ldAtBcA, encode .ldAtDeA, encode .ldAtHlIncA, encode .ldAtHlDecA] = [[0x02], [0x12], [0x22], [0x32]] ∧
    [encode (.ldAtA16A nn), encode (.ldhAtA8A n), encode .ldAtCA] = [[0xEA, loByte nn, hiByte nn], [0xE0, n], [0xE2]] ∧
    exec .ldAtBcA s = .next ((s.writeU8 s.regs.bc s.regs.a).done 1 8) ∧
    exec .ldAtDeA s = .next ((s.writeU8 s.regs.de s.regs.a).done 1 8) ∧
    exec .ldAtHlIncA s =
      .next { (s.writeU8 s.regs.hl s.regs.a).done 1 8 with regs := s.regs.putHl (s.regs.hl + 1) } ∧
    exec .ldAtHlDecA s =
      .next { (s.writeU8 s.regs.hl s.regs.a).done 1 8 with regs := s.regs.putHl (s.regs.hl - 1) } ∧
    exec (.ldAtA16A nn) s = .next ((s.writeU8 nn s.regs.a).done 3 16) ∧
    exec (.ldhAtA8A n) s = .next ((s.writeU8 (0xFF00#16 + n.setWidth 16) s.regs.a).done 2 12) ∧
    exec .ldAtCA s = .next ((s.writeU8 (0xFF00#16 + s.regs.c.setWidth 16) s.regs.a).done 1 8)

/-! ### 16-bit loads and the stack -/

/-- R115, R117: LD r16,n16 and LD SP,HL. -/
def Obligations.PairLoads : Prop :=
  ∀ (nn : Word) (s : State),
    [encode (mkLdPairImm .bc nn), encode (mkLdPairImm .de nn), encode (mkLdPairImm .hl nn),
        encode (mkLdPairImm .sp nn), encode .ldSpHl] =
      [[0x01, loByte nn, hiByte nn], [0x11, loByte nn, hiByte nn], [0x21, loByte nn, hiByte nn],
        [0x31, loByte nn, hiByte nn], [0xF9]] ∧
    exec (mkLdPairImm .bc nn) s =
      .next { s.done 3 12 with regs := { s.regs with b := hiByte nn, c := loByte nn } } ∧
    exec (mkLdPairImm .de nn) s =
      .next { s.done 3 12 with regs := { s.regs with d := hiByte nn, e := loByte nn } } ∧
    exec (mkLdPairImm .hl nn) s =
      .next { s.done 3 12 with regs := { s.regs with h := hiByte nn, l := loByte nn } } ∧
    exec (mkLdPairImm .sp nn) s = .next { s.done 3 12 with sp := nn } ∧
    exec .ldSpHl s = .next { s.done 1 8 with sp := s.regs.hl }

/-- R116: LD [a16],SP stores SP low byte first, the second byte at a16 + 1 mod 2^16. -/
def Obligations.StackPointerStore : Prop :=
  ∀ (nn : Word) (s : State),
    encode (.ldAtA16Sp nn) = [0x08, loByte nn, hiByte nn] ∧
    exec (.ldAtA16Sp nn) s = .next ((s.storeAll [(nn, loByte s.sp), (nn + 1, hiByte s.sp)]).done 3 20)

/-- R118, R158: LD HL,SP+e8 and ADD SP,e8. Z and N are cleared; Hf and Cf are the unsigned carries out of bits 3 and 7
of SP[7:0] plus the raw byte. -/
def Obligations.StackPointerPlusOffset : Prop :=
  ∀ (n : Byte) (s : State),
    let sum : Word := s.sp + n.signExtend 16
    let half : Bool := decide (s.sp.toNat % 16 + n.toNat % 16 > 0x0F)
    let carry : Bool := decide (s.sp.toNat % 256 + n.toNat > 0xFF)
    encode (.ldHlSpE8 n) = [0xF8, n] ∧ encode (.addSpE8 n) = [0xE8, n] ∧
    exec (.ldHlSpE8 n) s = .next { s.done 2 12 with regs := (s.regs.putHl sum).flags false false half carry } ∧
    exec (.addSpE8 n) s = .next { s.done 2 16 with sp := sum, regs := s.regs.flags false false half carry }

/-- R119: PUSH r16 stores the high byte at SP - 1, then the low byte at SP - 2, and leaves SP - 2. -/
def Obligations.PushStoresPair : Prop :=
  ∀ (p : RegStk) (s : State),
    let v : Word := s.stk p
    encode (mkPush p) = [byteOf (0xC5 + 16 * codeOfStk p)] ∧
    exec (mkPush p) s =
      .next { (s.storeAll [(s.sp - 1, hiByte v), (s.sp - 2, loByte v)]).done 1 16 with sp := s.sp - 2 }

/-- R120, R121: POP r16 takes the low byte at SP and the high byte at SP + 1; POP AF masks F with 0xF0. -/
def Obligations.PopLoadsPair : Prop :=
  ∀ (s : State),
    let lo : Byte := s.readU8 s.sp
    let hi : Byte := s.readU8 (s.sp + 1)
    [encode (mkPop .bc), encode (mkPop .de), encode (mkPop .hl), encode (mkPop .af)] = [[0xC1], [0xD1], [0xE1], [0xF1]] ∧
    exec (mkPop .bc) s = .next { s.done 1 12 with sp := s.sp + 2, regs := { s.regs with b := hi, c := lo } } ∧
    exec (mkPop .de) s = .next { s.done 1 12 with sp := s.sp + 2, regs := { s.regs with d := hi, e := lo } } ∧
    exec (mkPop .hl) s = .next { s.done 1 12 with sp := s.sp + 2, regs := { s.regs with h := hi, l := lo } } ∧
    exec (mkPop .af) s = .next { s.done 1 12 with sp := s.sp + 2, regs := { s.regs with a := hi, f := lo &&& 0xF0#8 } }

/-- `Push16(v)` then `Pop16()` returns `v` and leaves SP unchanged where both bytes lie at addresses that keep them. The
condition on the addresses, `keepsStackByte`, is the spec's inference: "That holds when neither address is ROM, the gap,
0xFF04, 0xFF41 or 0xFF44 [derived: from rule R61 and rule R51]" (20_memory.md, under R62). -/
def Obligations.PushThenPop : Prop :=
  ∀ (s : State) (v : Word), s.bus.Sound s.config.romBankCount → keepsStackByte (s.sp - 1) →
    keepsStackByte (s.sp - 2) →
    (s.push16 v).popValue = v ∧ (s.push16 v).popped.sp = s.sp

/-! ### 8-bit arithmetic and logic -/

/-- R123 to R128: ADD and ADC of A with a register, the byte at HL and an immediate, in the 9-bit form of R92. -/
def Obligations.AddWithAndWithoutCarry : Prop :=
  ∀ (r : Reg8) (n : Byte) (s : State),
    let m : Byte := s.readU8 s.regs.hl
    let cf : Nat := (flagC s.regs.f).toNat
    [encode (mkAluReg .add r), encode (mkAluReg .adc r)] = [[byteOf (0x80 + codeOfReg r)], [byteOf (0x88 + codeOfReg r)]] ∧
    [encode .addAAtHl, encode (.addAN8 n), encode .adcAAtHl, encode (.adcAN8 n)] = [[0x86], [0xC6, n], [0x8E], [0xCE, n]] ∧
    exec (mkAluReg .add r) s = .next { s.done 1 4 with regs := s.regs.afterAdd (s.regs.get r) 0 } ∧
    exec .addAAtHl s = .next { s.done 1 8 with regs := s.regs.afterAdd m 0 } ∧
    exec (.addAN8 n) s = .next { s.done 2 8 with regs := s.regs.afterAdd n 0 } ∧
    exec (mkAluReg .adc r) s = .next { s.done 1 4 with regs := s.regs.afterAdd (s.regs.get r) cf } ∧
    exec .adcAAtHl s = .next { s.done 1 8 with regs := s.regs.afterAdd m cf } ∧
    exec (.adcAN8 n) s = .next { s.done 2 8 with regs := s.regs.afterAdd n cf }

/-- R129 to R134: SUB and SBC, in the 9-bit form of R92. -/
def Obligations.SubtractWithAndWithoutBorrow : Prop :=
  ∀ (r : Reg8) (n : Byte) (s : State),
    let m : Byte := s.readU8 s.regs.hl
    let cf : Nat := (flagC s.regs.f).toNat
    [encode (mkAluReg .sub r), encode (mkAluReg .sbc r)] = [[byteOf (0x90 + codeOfReg r)], [byteOf (0x98 + codeOfReg r)]] ∧
    [encode .subAAtHl, encode (.subAN8 n), encode .sbcAAtHl, encode (.sbcAN8 n)] = [[0x96], [0xD6, n], [0x9E], [0xDE, n]] ∧
    exec (mkAluReg .sub r) s = .next { s.done 1 4 with regs := s.regs.afterSub (s.regs.get r) 0 } ∧
    exec .subAAtHl s = .next { s.done 1 8 with regs := s.regs.afterSub m 0 } ∧
    exec (.subAN8 n) s = .next { s.done 2 8 with regs := s.regs.afterSub n 0 } ∧
    exec (mkAluReg .sbc r) s = .next { s.done 1 4 with regs := s.regs.afterSub (s.regs.get r) cf } ∧
    exec .sbcAAtHl s = .next { s.done 1 8 with regs := s.regs.afterSub m cf } ∧
    exec (.sbcAN8 n) s = .next { s.done 2 8 with regs := s.regs.afterSub n cf }

/-- R135 to R143: AND, XOR and OR. -/
def Obligations.LogicOperations : Prop :=
  ∀ (r : Reg8) (n : Byte) (s : State),
    let a : Byte := s.regs.a
    let v : Byte := s.regs.get r
    let m : Byte := s.readU8 s.regs.hl
    [encode (mkAluReg .and r), encode (mkAluReg .xor r), encode (mkAluReg .or r)] =
      [[byteOf (0xA0 + codeOfReg r)], [byteOf (0xA8 + codeOfReg r)], [byteOf (0xB0 + codeOfReg r)]] ∧
    [encode .andAAtHl, encode (.andAN8 n), encode .xorAAtHl, encode (.xorAN8 n), encode .orAAtHl, encode (.orAN8 n)] =
      [[0xA6], [0xE6, n], [0xAE], [0xEE, n], [0xB6], [0xF6, n]] ∧
    exec (mkAluReg .and r) s = .next { s.done 1 4 with regs := s.regs.afterLogic (a &&& v) true } ∧
    exec .andAAtHl s = .next { s.done 1 8 with regs := s.regs.afterLogic (a &&& m) true } ∧
    exec (.andAN8 n) s = .next { s.done 2 8 with regs := s.regs.afterLogic (a &&& n) true } ∧
    exec (mkAluReg .xor r) s = .next { s.done 1 4 with regs := s.regs.afterLogic (a ^^^ v) false } ∧
    exec .xorAAtHl s = .next { s.done 1 8 with regs := s.regs.afterLogic (a ^^^ m) false } ∧
    exec (.xorAN8 n) s = .next { s.done 2 8 with regs := s.regs.afterLogic (a ^^^ n) false } ∧
    exec (mkAluReg .or r) s = .next { s.done 1 4 with regs := s.regs.afterLogic (a ||| v) false } ∧
    exec .orAAtHl s = .next { s.done 1 8 with regs := s.regs.afterLogic (a ||| m) false } ∧
    exec (.orAN8 n) s = .next { s.done 2 8 with regs := s.regs.afterLogic (a ||| n) false }

/-- R144 to R146: CP writes the flags SUB would write, and does not write A. -/
def Obligations.CompareKeepsAccumulator : Prop :=
  ∀ (r : Reg8) (n : Byte) (s : State),
    [encode (mkAluReg .cp r), encode .cpAAtHl, encode (.cpAN8 n)] = [[byteOf (0xB8 + codeOfReg r)], [0xBE], [0xFE, n]] ∧
    exec (mkAluReg .cp r) s = .next { s.done 1 4 with regs := s.regs.afterCompare (s.regs.get r) 0 } ∧
    exec .cpAAtHl s = .next { s.done 1 8 with regs := s.regs.afterCompare (s.readU8 s.regs.hl) 0 } ∧
    exec (.cpAN8 n) s = .next { s.done 2 8 with regs := s.regs.afterCompare n 0 }

/-- R147 to R150: INC and DEC of a register and of the byte at HL. Hf is set exactly when the old low nibble is 0xF
(INC) or 0 (DEC); Cf is kept. The store of the [HL] forms comes before the flags are written. -/
def Obligations.IncrementAndDecrement : Prop :=
  ∀ (r : Reg8) (s : State),
    let v : Byte := s.regs.get r
    let m : Byte := s.readU8 s.regs.hl
    let c : Bool := flagC s.regs.f
    [encode (mkIncReg r), encode (mkDecReg r), encode .incAtHl, encode .decAtHl] =
      [[byteOf (0x04 + 8 * codeOfReg r)], [byteOf (0x05 + 8 * codeOfReg r)], [0x34], [0x35]] ∧
    exec (mkIncReg r) s =
      .next { s.done 1 4 with
        regs := (s.regs.put r (v + 1)).flags (decide (v = 0xFF)) false (decide (v.toNat % 16 = 15)) c } ∧
    exec (mkDecReg r) s =
      .next { s.done 1 4 with
        regs := (s.regs.put r (v - 1)).flags (decide (v = 0x01)) true (decide (v.toNat % 16 = 0)) c } ∧
    exec .incAtHl s =
      .next { (s.writeU8 s.regs.hl (m + 1)).done 1 12 with
        regs := s.regs.flags (decide (m = 0xFF)) false (decide (m.toNat % 16 = 15)) c } ∧
    exec .decAtHl s =
      .next { (s.writeU8 s.regs.hl (m - 1)).done 1 12 with
        regs := s.regs.flags (decide (m = 0x01)) true (decide (m.toNat % 16 = 0)) c }

/-- R151: DAA, by the two decimal adjustments. -/
def Obligations.DecimalAdjust : Prop :=
  ∀ s : State, encode .daa = [0x27] ∧ exec .daa s = .next { s.done 1 4 with regs := s.regs.afterDaa }

/-- DAA makes binary-coded decimal addition and subtraction exact (43_alu_8bit.md section 11, from R123, R129, R151):
after ADD A,n or SUB A,n of two decimal bytes, DAA leaves the decimal byte of the sum or difference mod 100 in A and
the decimal carry or borrow in Cf. -/
def Obligations.DecimalArithmeticIsExact : Prop :=
  ∀ (x y : Nat) (s : State), x < 100 → y < 100 → s.regs.a = bcd x →
    (∃ t u, exec (.addAN8 (bcd y)) s = .next t ∧ exec .daa t = .next u ∧ u.regs.a = bcd ((x + y) % 100) ∧
      flagC u.regs.f = decide (x + y ≥ 100)) ∧
    (∃ t u, exec (.subAN8 (bcd y)) s = .next t ∧ exec .daa t = .next u ∧ u.regs.a = bcd ((x + 100 - y) % 100) ∧
      flagC u.regs.f = decide (x < y))

/-- R152, R153, R154: CPL, SCF and CCF. -/
def Obligations.ComplementAndCarryFlag : Prop :=
  ∀ s : State,
    let z : Bool := flagZ s.regs.f
    let c : Bool := flagC s.regs.f
    [encode .cpl, encode .scf, encode .ccf] = [[0x2F], [0x37], [0x3F]] ∧
    exec .cpl s = .next { s.done 1 4 with regs := { s.regs with a := ~~~s.regs.a }.flags z true true c } ∧
    exec .scf s = .next { s.done 1 4 with regs := s.regs.flags z false false true } ∧
    exec .ccf s = .next { s.done 1 4 with regs := s.regs.flags z false false (!c) }

/-! ### 16-bit arithmetic -/

/-- R155, R156: INC r16 and DEC r16 wrap and write no flag. -/
def Obligations.PairIncrementAndDecrement : Prop :=
  ∀ (p : Reg16) (s : State),
    encode (mkIncPair p) = [byteOf (0x03 + 16 * codeOfPair p)] ∧ encode (mkDecPair p) = [byteOf (0x0B + 16 * codeOfPair p)] ∧
    exec (mkIncPair p) s = .next ((s.putPair p (s.pair p + 1)).done 1 8) ∧
    exec (mkDecPair p) s = .next ((s.putPair p (s.pair p - 1)).done 1 8)

/-- R157: ADD HL,r16: Z is kept, N cleared, Hf the carry out of bit 11, Cf the carry out of bit 15. -/
def Obligations.AddPairToHl : Prop :=
  ∀ (p : Reg16) (s : State),
    let v : Word := s.pair p
    encode (mkAddHl p) = [byteOf (0x09 + 16 * codeOfPair p)] ∧
    exec (mkAddHl p) s =
      .next { s.done 1 8 with
        regs := (s.regs.putHl (s.regs.hl + v)).flags (flagZ s.regs.f) false
          (decide (s.regs.hl.toNat % 4096 + v.toNat % 4096 ≥ 4096)) (decide (s.regs.hl.toNat + v.toNat ≥ 65536)) }

/-! ### Rotates, shifts and bits -/

/-- R160 to R164: the accumulator rotates. Z is kept under `preserve` and cleared under `clear`. -/
def Obligations.AccumulatorRotates : Prop :=
  ∀ s : State,
    let z : Bool := match s.config.accRotateZ with
      | .preserve => flagZ s.regs.f
      | .clear => false
    let r : RotOp → Byte × Bool := fun op => rotClosed op s.regs.a (flagC s.regs.f)
    let t : RotOp → State := fun op =>
      { s.done 1 4 with regs := { s.regs with a := (r op).1 }.flags z false false (r op).2 }
    [encode .rlca, encode .rrca, encode .rla, encode .rra] = [[0x07], [0x0F], [0x17], [0x1F]] ∧
    exec .rlca s = .next (t .rlc) ∧ exec .rrca s = .next (t .rrc) ∧ exec .rla s = .next (t .rl) ∧
    exec .rra s = .next (t .rr)

/-- R165, R167, R169, R171, R173, R175, R177, R179: the prefixed rotates and shifts of a register. -/
def Obligations.RegisterRotates : Prop :=
  ∀ (op : RotOp) (dst : Reg8) (s : State),
    let r : Byte × Bool := rotClosed op (s.regs.get dst) (flagC s.regs.f)
    encode (mkRotReg op dst) = [0xCB, byteOf (8 * codeOfRot op + codeOfReg dst)] ∧
    exec (mkRotReg op dst) s =
      .next { s.done 2 8 with regs := (s.regs.put dst r.1).flags (decide (r.1 = 0)) false false r.2 }

/-- R166, R168, R170, R172, R174, R176, R178, R180: the prefixed rotates and shifts of the byte at HL. -/
def Obligations.MemoryRotates : Prop :=
  ∀ (op : RotOp) (s : State),
    let r : Byte × Bool := rotClosed op (s.readU8 s.regs.hl) (flagC s.regs.f)
    encode (mkRotAtHl op) = [0xCB, byteOf (8 * codeOfRot op + 6)] ∧
    exec (mkRotAtHl op) s =
      .next { (s.writeU8 s.regs.hl r.1).done 2 16 with regs := s.regs.flags (decide (r.1 = 0)) false false r.2 }

/-- R181, R182: BIT writes Z, N and Hf from the tested bit, keeps Cf, and writes neither the register nor memory. -/
def Obligations.BitTests : Prop :=
  ∀ (b : Fin 8) (r : Reg8) (s : State),
    encode (mkBitReg b r) = [0xCB, byteOf (0x40 + 8 * b.val + codeOfReg r)] ∧
    encode (mkBitAtHl b) = [0xCB, byteOf (0x46 + 8 * b.val)] ∧
    exec (mkBitReg b r) s =
      .next { s.done 2 8 with
        regs := s.regs.flags (decide ((s.regs.get r).toNat / 2 ^ b.val % 2 = 0)) false true (flagC s.regs.f) } ∧
    exec (mkBitAtHl b) s =
      .next { s.done 2 12 with
        regs := s.regs.flags (decide ((s.readU8 s.regs.hl).toNat / 2 ^ b.val % 2 = 0)) false true (flagC s.regs.f) }

/-- R183 to R186: RES and SET change one bit of a register or of the byte at HL and no flag; the [HL] forms always
store. -/
def Obligations.BitResetAndSet : Prop :=
  ∀ (b : Fin 8) (r : Reg8) (s : State),
    let mask : Byte := byteOf (2 ^ b.val)
    let v : Byte := s.regs.get r
    let m : Byte := s.readU8 s.regs.hl
    [encode (mkResReg b r), encode (mkSetReg b r), encode (mkResAtHl b), encode (mkSetAtHl b)] =
      [[0xCB, byteOf (0x80 + 8 * b.val + codeOfReg r)], [0xCB, byteOf (0xC0 + 8 * b.val + codeOfReg r)],
        [0xCB, byteOf (0x86 + 8 * b.val)], [0xCB, byteOf (0xC6 + 8 * b.val)]] ∧
    exec (mkResReg b r) s = .next { s.done 2 8 with regs := s.regs.put r (v &&& ~~~mask) } ∧
    exec (mkSetReg b r) s = .next { s.done 2 8 with regs := s.regs.put r (v ||| mask) } ∧
    exec (mkResAtHl b) s = .next ((s.writeU8 s.regs.hl (m &&& ~~~mask)).done 2 16) ∧
    exec (mkSetAtHl b) s = .next ((s.writeU8 s.regs.hl (m ||| mask)).done 2 16)

/-! ### Control flow -/

/-- R188, R189: JR and JR cc. The target is the next instruction's address plus the signed offset. -/
def Obligations.RelativeJumps : Prop :=
  ∀ (cc : Cond) (n : Byte) (s : State),
    let target : Word := s.pc + 2 + n.signExtend 16
    encode (.jrE8 n) = [0x18, n] ∧ encode (mkJrCond cc n) = [byteOf (0x20 + 8 * codeOfCond cc), n] ∧
    exec (.jrE8 n) s = .next (s.goto target 12) ∧
    exec (mkJrCond cc n) s = .next (if condHolds cc s.regs.f then s.goto target 12 else s.done 2 8)

/-- R190, R191, R192: JP a16, JP cc,a16 and JP HL. -/
def Obligations.AbsoluteJumps : Prop :=
  ∀ (cc : Cond) (nn : Word) (s : State),
    encode (.jpA16 nn) = [0xC3, loByte nn, hiByte nn] ∧ encode .jpHl = [0xE9] ∧
    encode (mkJpCond cc nn) = [byteOf (0xC2 + 8 * codeOfCond cc), loByte nn, hiByte nn] ∧
    exec (.jpA16 nn) s = .next (s.goto nn 16) ∧ exec .jpHl s = .next (s.goto s.regs.hl 4) ∧
    exec (mkJpCond cc nn) s = .next (if condHolds cc s.regs.f then s.goto nn 16 else s.done 3 12)

/-- R193, R194, R195: CALL, CALL cc and RST push the address of the next instruction. A call not taken touches neither
SP nor memory. -/
def Obligations.CallsAndRestarts : Prop :=
  ∀ (cc : Cond) (y : Fin 8) (nn : Word) (s : State),
    let push : Word → State := fun v =>
      { s.storeAll [(s.sp - 1, hiByte v), (s.sp - 2, loByte v)] with sp := s.sp - 2 }
    encode (.callA16 nn) = [0xCD, loByte nn, hiByte nn] ∧
    encode (mkCallCond cc nn) = [byteOf (0xC4 + 8 * codeOfCond cc), loByte nn, hiByte nn] ∧
    encode (mkRst y) = [byteOf (0xC7 + 8 * y.val)] ∧
    exec (.callA16 nn) s = .next ((push (s.pc + 3)).goto nn 24) ∧
    exec (mkCallCond cc nn) s =
      .next (if condHolds cc s.regs.f then (push (s.pc + 3)).goto nn 24 else s.done 3 12) ∧
    exec (mkRst y) s = .next ((push (s.pc + 1)).goto (BitVec.ofNat 16 (8 * y.val)) 16)

/-- R196, R197, R198: RET, RET cc and RETI pop PC; RETI also sets IME. -/
def Obligations.Returns : Prop :=
  ∀ (cc : Cond) (s : State),
    let target : Word := wordOf (s.readU8 (s.sp + 1)) (s.readU8 s.sp)
    encode .ret = [0xC9] ∧ encode .reti = [0xD9] ∧ encode (mkRetCond cc) = [byteOf (0xC0 + 8 * codeOfCond cc)] ∧
    exec .ret s = .next { s.goto target 16 with sp := s.sp + 2 } ∧
    exec .reti s = .next { s.goto target 16 with sp := s.sp + 2, ime := true } ∧
    exec (mkRetCond cc) s =
      .next (if condHolds cc s.regs.f then { s.goto target 20 with sp := s.sp + 2 } else s.done 1 8)

/-! ### System instructions -/

/-- R199, R203, R204 and the effect of R200: NOP, HALT, DI and EI. EI takes effect at the end of its own step. -/
def Obligations.NopHaltDiEi : Prop :=
  ∀ s : State,
    [encode .nop, encode .halt, encode .di, encode .ei] = [[0x00], [0x76], [0xF3], [0xFB]] ∧
    exec .nop s = .next (s.done 1 4) ∧ exec .halt s = .next { s.done 1 4 with halted := true } ∧
    exec .di s = .next { s.done 1 4 with ime := false } ∧ exec .ei s = .next { s.done 1 4 with ime := true }

/-- R202: STOP raises OpcodeNotImplemented(0x10, false) by default, with no other change of state; under `halt_like` it
halts the CPU and PC advances by 2. That the meaning carries the error in `fault` of a next state is the model's choice
(log 6). -/
def Obligations.StopByConfiguration : Prop :=
  ∀ (n : Byte) (s : State),
    encode (.stop n) = [0x10, n] ∧
    exec (.stop n) s =
      match s.config.stopBehaviour with
      | .notImplemented => .next { s with fault := some (.opcodeNotImplemented 0x10 false) }
      | .haltLike => .next { s.done 2 4 with halted := true }

/-- R206: an undefined byte sets `fault` to UnrecognizedOpcode(code, false) and changes nothing else; the system step that
fetches it returns that fault and leaves that state, the timer and the PPU standing still. That the meaning carries the
error in `fault` of a next state is the model's choice (log 6), and so is that the byte alone is its encoding (log
24). -/
def Obligations.UndefinedBytesFault : Prop :=
  ∀ (s : State) (code b1 b2 : Byte),
    code ∈ ([0xD3, 0xDB, 0xDD, 0xE3, 0xE4, 0xEB, 0xEC, 0xED, 0xF4, 0xFC, 0xFD] : List Byte) →
    encode (decodeBytes code b1 b2) = [code] ∧
    exec (decodeBytes code b1 b2) s = .next { s with fault := some (.unrecognizedOpcode code false) } ∧
    (s.fault = none → s.halted = false → s.readU8 s.pc = code →
      systemStep s = .fault (.unrecognizedOpcode code false) { s with fault := some (.unrecognizedOpcode code false) } ∧
        step s = .fault (.unrecognizedOpcode code false))

/-- R205: the bytes CB xx are one instruction of length 2, the prefixed table's entry for xx; the row of the prefix byte
performs that entry, which is the model's choice (log 10). -/
def Obligations.PrefixSelectsTheTable : Prop :=
  ∀ (op b2 : Byte) (s : State),
    decodeBytes 0xCB op b2 = decodePrefixed op ∧ encode (decodePrefixed op) = [0xCB, op] ∧
    exec (.prefixCb op) s = exec (decodePrefixed op) s ∧
    ∃ t, exec (.prefixCb op) s = .next t ∧ t.pc = s.pc + 2 ∧ t.fault = s.fault

/-! ### Decoding -/

/-- Decode and encode agree (R66, R75, R76, R79): for every well-formed instruction, with every operand at every value,
decoding its bytes gives it back and leaves the bytes that follow. That an undefined byte counts as one byte is the model's
choice (log 24). -/
def Obligations.DecodeOfEncode : Prop :=
  ∀ (i : Instr) (rest : List Byte), i.wf = true → decode (encode i ++ rest) = .instr i rest

/-- Every three bytes begin with exactly one instruction, whose encoding they begin with, at the length of rule R74
(R74, R78). That an undefined byte counts as one byte is the model's choice (log 24). -/
def Obligations.EncodeOfDecode : Prop :=
  ∀ b0 b1 b2 : Byte,
    (decodeBytes b0 b1 b2).wf = true ∧ encode (decodeBytes b0 b1 b2) = [b0, b1, b2].take (lengthOf b0)

/-- Words written out from the encodings of 30_encoding.md, one of each format and family (R66, R73, R75, R76). That
an undefined byte counts as one byte is the model's choice (log 24). -/
def Obligations.WrittenWordsDecode : Prop :=
  decode [0b01111000#8] = .instr .ldAB [] ∧
  decode [0b00110001#8, 0xFE#8, 0xFF#8] = .instr (.ldSpN16 0xFFFE#16) [] ∧
  decode [0b10101111#8] = .instr .xorAA [] ∧
  decode [0b00110100#8] = .instr .incAtHl [] ∧
  decode [0b00101001#8] = .instr .addHlHl [] ∧
  decode [0b11001011#8, 0b01111100#8] = .instr .bit7H [] ∧
  decode [0b11001011#8, 0b00110110#8] = .instr .swapAtHl [] ∧
  decode [0b00100000#8, 0b11111011#8] = .instr (.jrNzE8 0xFB#8) [] ∧
  decode [0b11100000#8, 0b01010000#8, 0x00#8] = .instr (.ldhAtA8A 0x50#8) [0x00#8] ∧
  decode [0b01110110#8] = .instr .halt [] ∧
  decode [0b11011001#8] = .instr .reti [] ∧
  decode [0b11101101#8] = .instr .undefinedED []

/-! ### The step -/

/-- R82, R230, R244: when the bytes at PC decode to an instruction, the system step is that instruction's meaning and then
the passing of its T-cycles for the timer, the PPU and the frame counter; if the meaning raised an error, the step
returns that fault and leaves the meaning's state, with no time passed. That a meaning carries the error it raises in
`fault` of a next state is the model's choice (log 6). -/
def Obligations.StepRunsDecodedInstruction : Prop :=
  ∀ (s : State) (i : Instr) (rest : List Byte), s.fault = none → s.halted = false →
    decode [s.readU8 s.pc, s.readU8 (s.pc + 1), s.readU8 (s.pc + 2)] = .instr i rest →
    i.wf = true ∧ ∃ t, exec i s = .next t ∧
      (t.fault = none → systemStep s = .ok t.cycles (t.elapse t.cycles) ∧ step s = .next (t.elapse t.cycles)) ∧
      (∀ e, t.fault = some e → t = { s with fault := some e } ∧ systemStep s = .fault e t ∧ step s = .fault e)

/-- R201 and R245: a halted step passes 4 T-cycles and changes no register, flag, memory byte or PC of its own; a step
of a state that records a fault does nothing and reports the fault, and so does the frame driver, whatever the frame
counter holds. That the driver does so at a frame counter of 70,224 or more, where R231's loop would deliver a frame, is
the model's choice (log 25, DEDUCED: R245 is followed). -/
def Obligations.HaltedAndFaultedSteps : Prop :=
  ∀ s : State,
    (∀ e, s.fault = some e → systemStep s = .fault e s ∧ step s = .fault e ∧ runFrame s = .fault e s) ∧
    (s.fault = none → s.halted = true → step s = .next ({ s with cycles := 4, skip := false }.elapse 4))

/-- R87 with the table's columns: an instruction that completes takes its row's `cycles`, or its `cycles_taken`, and the
second only for a row that has one (R266: 4 to 24, a multiple of 4). -/
def Obligations.CyclesFollowTheTable : Prop :=
  ∀ (i : Instr) (s t : State) (n : Nat), (descriptor i).cycles = some n → s.fault = none → exec i s = .next t →
    t.fault = none →
    (t.cycles = n ∨ (descriptor i).cyclesTaken = some t.cycles) ∧ (4 ≤ t.cycles ∧ t.cycles ≤ 24 ∧ t.cycles % 4 = 0)

/-- R30, R31: no instruction but DI, EI and RETI changes IME, and none but HALT and STOP changes `halted`. -/
def Obligations.WritersOfImeAndHalted : Prop :=
  ∀ (i : Instr) (s t : State), exec i s = .next t →
    (t.ime ≠ s.ime → i = .di ∨ i = .ei ∨ i = .reti) ∧
    (t.halted ≠ s.halted → i = .halt ∨ ∃ n, i = .stop n)

/-- R41, R259: a step never maps the boot ROM again, and never changes the configuration (R228), in the next state and in
the state that a fault leaves. -/
def Obligations.UnmapIsForGood : Prop :=
  ∀ s t : State, (step s = .next t ∨ ∃ e, systemStep s = .fault e t) →
    t.config = s.config ∧ (s.bus.bootRomMapped = false → t.bus.bootRomMapped = false)

/-! ### The register file -/

/-- R18, R22: a register reads back what was written to it and no other register or F changes; a pair is a view, its
first-named register high, and writing AF masks F with 0xF0. -/
def Obligations.RegistersAndPairs : Prop :=
  ∀ (rf : RegFile) (r q : Reg8) (v : Byte) (w : Word),
    (rf.put r v).get q = (if q = r then v else rf.get q) ∧ (rf.put r v).f = rf.f ∧
    rf.bc.toNat = 256 * rf.b.toNat + rf.c.toNat ∧ rf.de.toNat = 256 * rf.d.toNat + rf.e.toNat ∧
    rf.hl.toNat = 256 * rf.h.toNat + rf.l.toNat ∧ rf.af.toNat = 256 * rf.a.toNat + rf.f.toNat ∧
    (rf.putBc w).bc = w ∧ (rf.putDe w).de = w ∧ (rf.putHl w).hl = w ∧ (rf.putAf w).af = w &&& 0xFFF0#16

/-! ### Memory -/

/-- R49, R46: what each region reads as, with the boot-ROM overlay, the effective bank, the echo and the gap. -/
def Obligations.ReadsByRegion : Prop :=
  ∀ (s : State) (a : Word),
    let n : Nat := a.toNat
    (n ≤ 0x00FF → s.bus.bootRomMapped = true → s.readU8 a = s.bus.bootRom.get blankByte n) ∧
    (n ≤ 0x3FFF → (0x00FF < n ∨ s.bus.bootRomMapped = false) → s.readU8 a = s.bus.rom.get romBlank n) ∧
    (0x4000 ≤ n → n ≤ 0x7FFF →
      s.readU8 a = s.bus.rom.get romBlank (s.bus.romBank.toNat % s.config.romBankCount * 0x4000 + (n - 0x4000))) ∧
    (0x8000 ≤ n → n ≤ 0x9FFF → s.readU8 a = s.bus.vram.get blankByte (n - 0x8000)) ∧
    (0xA000 ≤ n → n ≤ 0xBFFF → s.readU8 a = s.bus.eram.get blankByte (n - 0xA000)) ∧
    (0xC000 ≤ n → n ≤ 0xDFFF → s.readU8 a = s.bus.wram.get blankByte (n - 0xC000)) ∧
    (0xE000 ≤ n → n ≤ 0xFDFF → s.readU8 a = s.readU8 (a - 0x2000)) ∧
    (0xFE00 ≤ n → n ≤ 0xFE9F → s.readU8 a = s.bus.oam.get blankByte (n - 0xFE00)) ∧
    (0xFEA0 ≤ n → n ≤ 0xFEFF → s.readU8 a = 0x00#8) ∧
    (n = 0xFF04 → s.readU8 a = hiByte s.bus.divCounter) ∧
    (0xFF00 ≤ n → n ≤ 0xFF7F → n ≠ 0xFF04 → s.readU8 a = s.bus.io.get blankByte (n - 0xFF00)) ∧
    (0xFF80 ≤ n → n ≤ 0xFFFE → s.readU8 a = s.bus.hram.get blankByte (n - 0xFF80)) ∧
    (n = 0xFFFF → s.readU8 a = s.bus.ie)

/-- R51: what a CPU store does at each address, said by what reads back, for the storage in canonical form. -/
def Obligations.StoresByAddress : Prop :=
  ∀ (s : State) (a : Word) (v : Byte), s.config.valid → s.bus.Sound s.config.romBankCount →
    let n : Nat := a.toNat
    let t : State := s.writeU8 a v
    (n ≤ 0x7FFF → s.config.romWritesStick = false → t = if 0x2000 ≤ n ∧ n ≤ 0x3FFF then s.bankSelect v else s) ∧
    (n ≤ 0x7FFF → s.config.romWritesStick = true →
      t.readU8 a = v ∧ t.bus.romBank = if 0x2000 ≤ n ∧ n ≤ 0x3FFF then bankOf v else s.bus.romBank) ∧
    (0x8000 ≤ n → ¬(0xFEA0 ≤ n ∧ n ≤ 0xFEFF) → n ≠ 0xFF04 → n ≠ 0xFF41 → n ≠ 0xFF44 → t.readU8 a = v) ∧
    (0xFEA0 ≤ n → n ≤ 0xFEFF → t = s) ∧
    (n = 0xFF04 → t = { s with bus := { s.bus with divCounter := 0 } }) ∧
    (n = 0xFF41 → t.readU8 a = (v &&& 0xF8#8) ||| (s.readU8 a &&& 0x07#8)) ∧
    (n = 0xFF44 → t = s) ∧
    (t.bus.bootRomMapped = if n = 0xFF50 then false else s.bus.bootRomMapped) ∧
    (0x8000 ≤ n → t.bus.romBank = s.bus.romBank) ∧
    (∀ b : Word, s.outside a b → t.readU8 b = s.readU8 b)

/-- R52, R53: the bank register takes the low five bits with 0 remapped to 1, is never 0, shows at 0x4000-0x7FFF at
once, and nothing else changes. -/
def Obligations.BankSelection : Prop :=
  ∀ (s : State) (v : Byte) (a : Word),
    let t : State := s.bankSelect v
    let bank : Nat := if v.toNat % 32 = 0 then 1 else v.toNat % 32
    t = { s with bus := { s.bus with romBank := BitVec.ofNat 5 bank } } ∧ t.bus.romBank.toNat = bank ∧
    t.bus.romBank ≠ 0 ∧
    (0x4000 ≤ a.toNat → a.toNat ≤ 0x7FFF →
      t.readU8 a = s.bus.rom.get romBlank (bank % s.config.romBankCount * 0x4000 + (a.toNat - 0x4000))) ∧
    (¬(0x4000 ≤ a.toNat ∧ a.toNat ≤ 0x7FFF) → t.readU8 a = s.readU8 a)

/-- R50, R54: a word is little-endian, its second byte at a + 1 mod 2^16, and a word store is two CPU stores, the low
byte first. -/
def Obligations.WordAccess : Prop :=
  ∀ (s : State) (a w : Word),
    (s.readU16 a).toNat = (s.readU8 a).toNat + 256 * (s.readU8 (a + 1)).toNat ∧
    s.writeU16 a w = s.storeAll [(a, byteOf (w.toNat % 256)), (a + 1, byteOf (w.toNat / 256))]

/-- The frame of every instruction over memory (R51, R59): an instruction that stores leaves every address outside its
stores reading as before, and one that stores nothing leaves all of memory as it was; none touches the PPU's own state,
the frame counter or the configuration. `State.stores` lists each storing form's addresses and bytes. -/
def Obligations.MemoryFrame : Prop :=
  ∀ (i : Instr) (s t : State) (a : Word), s.config.valid → s.bus.Sound s.config.romBankCount → exec i s = .next t →
    (s.outsideAll (s.stores i) a → t.readU8 a = s.readU8 a) ∧
    (s.stores i = [] → t.bus = s.bus) ∧ t.ppu = s.ppu ∧ t.frameCycles = s.frameCycles ∧ t.config = s.config

/-! ### Timer and pixel pipeline -/

/-- R253, R230: after a CPU step that completes, the timer has advanced by its T-cycles mod 2^16 and so has the frame
counter; no register, no storage but STAT and LY, and not the bank or the overlay, changes with them. -/
def Obligations.TimerFollowsTheCpu : Prop :=
  ∀ (s t : State), s.fault = none → s.halted = false → exec s.fetched s = .next t → t.fault = none →
    ∃ u, step s = .next u ∧ u.bus.divCounter = t.bus.divCounter + BitVec.ofNat 16 t.cycles ∧
      u.readU8 0xFF04#16 = byteOf ((t.bus.divCounter.toNat + t.cycles) / 256) ∧
      u.frameCycles = t.frameCycles + t.cycles ∧ u.regs = t.regs ∧ u.sp = t.sp ∧ u.pc = t.pc ∧ u.ime = t.ime ∧
      u.halted = t.halted ∧ u.fault = none ∧
      { u.bus with io := t.bus.io, divCounter := t.bus.divCounter } = t.bus

/-- R208: while LCDC[7] is 0 any number of ticks changes nothing. -/
def Obligations.DisplayOffIsNoOp : Prop :=
  ∀ (s : State) (n : Nat), (s.readU8 0xFF40#16).getLsbD 7 = false → s.updateGraphics n = s

/-- R226, R55: the PPU writes STAT[1:0], LY and its own fields, and nothing else of the machine. -/
def Obligations.PpuWritesOnlyItsOwn : Prop :=
  ∀ (s : State) (n : Nat), s.bus.Sound s.config.romBankCount →
    let t : State := s.updateGraphics n
    { t with bus := { t.bus with io := s.bus.io }, ppu := s.ppu } = s ∧
    (∀ i, i ≠ 0x41 → i ≠ 0x44 → t.io i = s.io i) ∧ (t.io 0x41 &&& 0xFC#8 = s.io 0x41 &&& 0xFC#8) ∧
    t.ppu.palette = s.ppu.palette

/-- R210, R224, R214: a visible line with the display on. From its start, after n of its 456 cycles, the mode is OAMScan
up to 80, then Drawing up to 247 + d, then HBlank; the first pixel comes at cycle 88 and the 160th at cycle 247 + d; the
last cycle counts LY up and begins the next line or VBlank. -/
def Obligations.VisibleLineTiming : Prop :=
  ∀ s : State, s.Inv → s.lcdOn = true → s.ppu.mode = .oamScan → s.ppu.lineCycles = 0 →
    let d : Nat := s.ppu.discard.toNat
    (∀ n, n < 456 →
      let t : State := s.updateGraphics n
      t.ppu.lineCycles = n ∧ t.ly = s.ly ∧ t.ppu.scanlineX = min 160 (n - 87 - d) ∧ t.ppu.discard.toNat = d - (n - 87) ∧
      t.ppu.mode = if n < 80 then .oamScan else if n < 247 + d then .drawingPixels else .hBlank) ∧
    (let t : State := s.updateGraphics 456
     t.ppu.lineCycles = 0 ∧ t.ly = s.ly + 1 ∧ t.ppu.mode = if s.ly = 143 then .vBlank else .oamScan)

/-- R225: from the start of line 0 with the display on, after n lines of 456 cycles LY is n mod 154, and the mode is
OAMScan on lines 0 to 143 and VBlank on lines 144 to 153; 154 lines, 70,224 cycles, close the frame. -/
def Obligations.FrameTiming : Prop :=
  ∀ s : State, s.Inv → s.lcdOn = true → s.ppu.mode = .oamScan → s.ppu.lineCycles = 0 → s.ly = 0 →
    ∀ n, n ≤ 154 →
      let t : State := s.updateGraphics (456 * n)
      t.ly.toNat = n % 154 ∧ t.ppu.lineCycles = 0 ∧ t.ppu.mode = if n % 154 < 144 then .oamScan else .vBlank

/-- R221 with R217 to R220: a rendered line draws exactly the 160 pixels of the background at row LY, from the tile-map
column and the fine scroll it began with, and no pixel of another row. -/
def Obligations.RenderedLineIsBackground : Prop :=
  ∀ s : State, s.Inv → s.lcdOn = true → s.ppu.mode = .oamScan → s.ppu.lineCycles = 0 →
    let t : State := s.updateGraphics 456
    (∀ x, x < 160 → t.pixel s.ly.toNat x = s.background s.ppu.fetcherX s.ppu.discard.toNat x) ∧
    (∀ y x, y ≠ s.ly.toNat → x < 160 → t.pixel y x = s.pixel y x)

/-! ### Host actions -/

/-- R248, R249: a dispatch of source k. It exists only under `interrupts_modelled`; a fault makes it do nothing; nothing
pending and enabled leaves only the request; a pending source wakes the core; with IME set the lowest pending source is
taken: its request and IME cleared, PC pushed, PC at its vector, 20 T-cycles passed. -/
def Obligations.InterruptDispatch : Prop :=
  ∀ (s : State) (k : Fin 5), s.bus.Sound s.config.romBankCount →
    let f : Byte := s.intFlags ||| byteOf (2 ^ k.val)
    let p : Byte := s.bus.ie &&& f &&& 0x1F#8
    let asked : State := s.putIo 0x0F f
    (s.config.interruptsModelled = false → s.dispatchInterrupt k = none) ∧
    (s.config.interruptsModelled = true → s.fault ≠ none → s.dispatchInterrupt k = some s) ∧
    (s.config.interruptsModelled = true → s.fault = none → p = 0 → s.dispatchInterrupt k = some asked) ∧
    (s.config.interruptsModelled = true → s.fault = none → p ≠ 0 → s.ime = false →
      s.dispatchInterrupt k = some { asked with halted := false }) ∧
    (s.config.interruptsModelled = true → s.fault = none → s.ime = true →
      ∀ j : Fin 5, p.getLsbD j.val = true → (∀ i < j.val, p.getLsbD i = false) →
        let taken : State := { asked.putIo 0x0F (f &&& ~~~byteOf (2 ^ j.val)) with ime := false, halted := false }
        s.dispatchInterrupt k =
          some ({ taken.storeAll [(s.sp - 1, hiByte s.pc), (s.sp - 2, loByte s.pc)] with
            sp := s.sp - 2, pc := BitVec.ofNat 16 (0x40 + 8 * j.val) }.elapse 20))

/-- R231: a frame always ends. Its driver answers the frame buffer with an overshoot of at most 20 T-cycles carried into
the next frame, or the fault that stopped it; it never runs out of steps. -/
def Obligations.FrameDriverEnds : Prop :=
  ∀ s : State, s.frameCycles < 70224 → s.frameCycles % 4 = 0 →
    (∃ picture t, runFrame s = .frame picture t ∧ picture = t.ppu.frameBuffer ∧ t.frameCycles ≤ 20 ∧
      t.frameCycles % 4 = 0 ∧ t.fault = none) ∨
    (∃ e t, runFrame s = .fault e t ∧ t.fault = some e)

/-- R234: `load_state` sets the registers with F masked, clears `halted` and `fault`, and stores each listed byte where
its address reads from. R234 lists what it does not touch; that everything else (`skip`, `cycles`, the low byte of
`div_counter`, the storage no address reads) is as before too is log 18. -/
def Obligations.LoadStateSetsTheGoldenState : Prop :=
  ∀ (s : State) (g : Golden), s.config.valid → s.bus.Sound s.config.romBankCount →
    let t : State := s.loadState g
    t = { s with
      regs := { a := g.a, b := g.b, c := g.c, d := g.d, e := g.e, f := g.f &&& 0xF0#8, h := g.h, l := g.l },
      sp := g.sp, pc := g.pc, halted := false, fault := none, bus := t.bus } ∧
    t.bus.romBank = s.bus.romBank ∧ t.bus.bootRomMapped = s.bus.bootRomMapped ∧
    loByte t.bus.divCounter = loByte s.bus.divCounter ∧ (g.mem = [] → t.bus = s.bus) ∧
    (∀ ws a v, g.mem = ws ++ [(a, v)] →
      let u : State := s.loadState { g with mem := ws }
      (s.slot a ≠ .gap → t.readU8 a = v) ∧ (s.slot a = .gap → t.bus = u.bus) ∧
      ∀ x : Slot, x ≠ s.slot a → t.bus.readSlot x = u.bus.readSlot x)

/-! ### Reset and the invariant -/

/-- The rows of R258's table: what building the machine leaves, for every configuration, cartridge, boot ROM, palette and
draw. The draws are lists; that a draw shorter than its region counts as 0x00, or the colour 0, from its end on is the
model's choice (logs 2 and 3), and that bytes past a region's end are dropped is log 23. -/
def Obligations.ResetValues : Prop :=
  ∀ b : Setup,
    let s : State := State.build b
    (s.pc = 0x0000#16 ∧ s.ime = false ∧ s.halted = false ∧ s.fault = none ∧ s.frameCycles = 0) ∧
    (s.regs.a = b.draw.a ∧ s.regs.b = b.draw.b ∧ s.regs.c = b.draw.c ∧ s.regs.d = b.draw.d ∧ s.regs.e = b.draw.e ∧
      s.regs.h = b.draw.h ∧ s.regs.l = b.draw.l ∧ s.sp = b.draw.sp ∧ s.regs.f &&& 0x0F#8 = 0 ∧
      s.regs.f &&& 0xF0#8 = b.draw.f &&& 0xF0#8) ∧
    (s.bus.bootRomMapped = true ∧ s.bus.romBank = 1 ∧ s.bus.divCounter = 0 ∧ s.bus.ie = b.draw.ie) ∧
    (∀ i, i < b.config.romBankCount * 0x4000 → s.bus.rom.get romBlank i = b.romImage.getD i 0xFF) ∧
    (∀ i, i < 256 → s.bus.bootRom.get blankByte i = b.bootRom.getD i 0x00) ∧
    (∀ i, i < 8192 → s.bus.vram.get blankByte i = b.draw.vram.getD i 0x00 ∧
      s.bus.eram.get blankByte i = b.draw.eram.getD i 0x00 ∧ s.bus.wram.get blankByte i = b.draw.wram.getD i 0x00) ∧
    (∀ i, i < 160 → s.bus.oam.get blankByte i = b.draw.oam.getD i 0x00) ∧
    (∀ i, i < 127 → s.bus.hram.get blankByte i = b.draw.hram.getD i 0x00) ∧
    (∀ i, i < 128 → s.io i = if i = 0x41 then 0x02 else 0x00) ∧
    (s.ppu.mode = .oamScan ∧ s.ppu.lineCycles = 0 ∧ s.ly = 0 ∧ s.ppu.fetcherState = .getTileNumber ∧
      s.ppu.fifo = [] ∧ s.ppu.scanlineX = 0 ∧ s.ppu.fetchDiv = false ∧ s.ppu.tileNumber = 0 ∧
      s.ppu.tileDataAddr = 0 ∧ s.ppu.tileLo = 0 ∧ s.ppu.tileHi = 0 ∧ s.ppu.fetcherX = 0 ∧ s.ppu.discard = 0 ∧
      s.ppu.palette = b.palette) ∧
    (∀ y x, y < 144 → x < 160 → s.pixel y x = b.draw.frameBuffer.getD (160 * y + x) blankColor)

/-- The model's invariant holds at `State.reset` (the reset values that are the model's own choice are log 1 to 4). -/
def Obligations.ResetMeetsTheInvariant : Prop := State.reset.Inv

/-- The invariant holds of every machine that is built with a legal configuration (R7, R258). -/
def Obligations.BuildMeetsTheInvariant : Prop := ∀ b : Setup, b.config.valid → (State.build b).Inv

/-- The invariant is kept by every step from every state that meets it (R21, R33, R34, R36, R38, R43, R52): F[3:0] stays
0, the storage canonical, the bank register in 1..31, STAT[1:0] the mirror of the mode, LY in the mode's range, the
pixel pipeline at a position of the line, the FIFO within its bound. The state that a fault leaves meets it too. -/
def Obligations.StepKeepsTheInvariant : Prop :=
  ∀ s t : State, s.Inv → (step s = .next t ∨ ∃ e, systemStep s = .fault e t) → t.Inv
end

