-- ==== Sys2Proof/Laws/Memory.lean ====
section
/-! SUPPORT. The laws of sparse storage: reading after writing, and the canonical form that every operation keeps. -/

namespace Sys2Proof.Machine

variable {α : Type} [DecidableEq α] {blank : α} {size : Nat}

/-- Storage in canonical form from `lo` on reads as blank below `lo`. -/
theorem Sparse.get_below : ∀ {m : List (Nat × α)} {lo i : Nat},
    Sparse.wfFrom blank size lo m = true → i < lo → Sparse.get blank m i = blank
  | [], _, _, _, _ => rfl
  | (k, v) :: m, lo, i, h, hi => by
    simp only [Sparse.wfFrom, Bool.and_eq_true, decide_eq_true_eq] at h
    obtain ⟨⟨⟨h1, _⟩, _⟩, h4⟩ := h
    have : k ≠ i := by omega
    simp only [Sparse.get, this, if_false]
    exact Sparse.get_below h4 (by omega)

/-- Storage in canonical form reads as blank at and past its size. -/
theorem Sparse.get_above : ∀ {m : List (Nat × α)} {lo i : Nat},
    Sparse.wfFrom blank size lo m = true → size ≤ i → Sparse.get blank m i = blank
  | [], _, _, _, _ => rfl
  | (k, v) :: m, lo, i, h, hi => by
    simp only [Sparse.wfFrom, Bool.and_eq_true, decide_eq_true_eq] at h
    obtain ⟨⟨⟨_, h2⟩, _⟩, h4⟩ := h
    have : k ≠ i := by omega
    simp only [Sparse.get, this, if_false]
    exact Sparse.get_above h4 hi

/-- A canonical form from `lo` on is one from any earlier index on. -/
theorem Sparse.wfFrom_mono {m : List (Nat × α)} {lo lo' : Nat} (h : Sparse.wfFrom blank size lo m = true)
    (hl : lo' ≤ lo) : Sparse.wfFrom blank size lo' m = true := by
  cases m with
  | nil => rfl
  | cons e m =>
    obtain ⟨k, v⟩ := e
    simp only [Sparse.wfFrom, Bool.and_eq_true, decide_eq_true_eq] at h ⊢
    obtain ⟨⟨⟨h1, h2⟩, h3⟩, h4⟩ := h
    exact ⟨⟨⟨by omega, h2⟩, h3⟩, h4⟩

/-- Every write keeps the canonical form. -/
theorem Sparse.wfFrom_set : ∀ {m : List (Nat × α)} {lo i : Nat} {v : α},
    Sparse.wfFrom blank size lo m = true → lo ≤ i → i < size →
      Sparse.wfFrom blank size lo (Sparse.set blank m i v) = true
  | [], lo, i, v, _, hl, hi => by
    by_cases hv : v = blank <;> simp [Sparse.set, Sparse.wfFrom, hv, hl, hi]
  | (k, w) :: m, lo, i, v, h, hl, hi => by
    have h' := h
    simp only [Sparse.wfFrom, Bool.and_eq_true, decide_eq_true_eq] at h
    obtain ⟨⟨⟨h1, h2⟩, h3⟩, h4⟩ := h
    unfold Sparse.set
    by_cases hik : i < k
    · by_cases hv : v = blank
      · simpa [hik, hv] using h'
      · simp only [hik, hv, if_true, if_false, Sparse.wfFrom, Bool.and_eq_true, decide_eq_true_eq]
        exact ⟨⟨⟨hl, hi⟩, hv⟩, ⟨⟨⟨by omega, h2⟩, h3⟩, h4⟩⟩
    · by_cases hk : i = k
      · by_cases hv : v = blank
        · simp only [hk, hv, if_true, if_false, lt_irrefl]
          exact Sparse.wfFrom_mono h4 (by omega)
        · simp only [hk, hv, if_true, if_false, lt_irrefl, Sparse.wfFrom, Bool.and_eq_true, decide_eq_true_eq]
          exact ⟨⟨⟨by omega, by omega⟩, hv⟩, h4⟩
      · simp only [hik, hk, if_false, Sparse.wfFrom, Bool.and_eq_true, decide_eq_true_eq]
        exact ⟨⟨⟨h1, h2⟩, h3⟩, Sparse.wfFrom_set h4 (by omega) hi⟩

/-- A read after a write: the value written at its index, the old value elsewhere. -/
theorem Sparse.get_set : ∀ {m : List (Nat × α)} {lo i j : Nat} {v : α},
    Sparse.wfFrom blank size lo m = true →
      Sparse.get blank (Sparse.set blank m i v) j = if j = i then v else Sparse.get blank m j
  | [], _, i, j, v, _ => by
    by_cases hj : j = i
    · subst hj
      by_cases hv : v = blank <;> simp [Sparse.set, Sparse.get, hv]
    · have : i ≠ j := fun e => hj e.symm
      by_cases hv : v = blank <;> simp [Sparse.set, Sparse.get, hv, hj, this]
  | (k, w) :: m, lo, i, j, v, h => by
    have h' := h
    simp only [Sparse.wfFrom, Bool.and_eq_true, decide_eq_true_eq] at h
    obtain ⟨⟨⟨h1, h2⟩, h3⟩, h4⟩ := h
    unfold Sparse.set
    by_cases hik : i < k
    · by_cases hv : v = blank
      · subst hv
        by_cases hj : j = i
        · subst hj
          have : k ≠ j := by omega
          simp only [hik, if_true, Sparse.get, this, if_false]
          exact Sparse.get_below h4 (by omega)
        · simp [hik, hj]
      · by_cases hj : j = i
        · simp [hik, hv, hj, Sparse.get]
        · have : i ≠ j := fun e => hj e.symm
          simp [hik, hv, hj, this, Sparse.get]
    · by_cases hk : i = k
      · subst hk
        by_cases hv : v = blank
        · subst hv
          by_cases hj : j = i
          · subst hj
            simp only [lt_irrefl, if_true, if_false]
            exact Sparse.get_below h4 (by omega)
          · have : i ≠ j := fun e => hj e.symm
            simp [hj, this, Sparse.get]
        · by_cases hj : j = i
          · simp [hv, hj, Sparse.get]
          · have : i ≠ j := fun e => hj e.symm
            simp [hv, hj, this, Sparse.get]
      · simp only [hik, hk, if_false, Sparse.get, Sparse.get_set (v := v) (i := i) (j := j) h4]
        by_cases hj : k = j
        · have : j ≠ i := by omega
          simp [hj, this]
        · simp [hj]

/-- The storage built from a list of values is canonical. -/
theorem Sparse.wfFrom_ofList : ∀ {vs : List α} {k : Nat},
    k + vs.length ≤ size → Sparse.wfFrom blank size k (Sparse.ofList blank k vs) = true
  | [], _, _ => rfl
  | v :: vs, k, h => by
    have ih := Sparse.wfFrom_ofList (vs := vs) (k := k + 1) (by simp at h; omega)
    unfold Sparse.ofList
    split
    · exact Sparse.wfFrom_mono ih (by omega)
    · rename_i hv
      simp only [List.length_cons] at h
      simp only [Sparse.wfFrom, Bool.and_eq_true, decide_eq_true_eq]
      exact ⟨⟨⟨le_refl _, by omega⟩, hv⟩, ih⟩

/-- The storage built from a list of values holds them. -/
theorem Sparse.get_ofList : ∀ {vs : List α} {k i : Nat},
    Sparse.get blank (Sparse.ofList blank k vs) (k + i) = vs.getD i blank
  | [], _, _ => by simp [Sparse.ofList, Sparse.get]
  | v :: vs, k, i => by
    have hw : Sparse.wfFrom blank (k + 1 + vs.length) (k + 1) (Sparse.ofList blank (k + 1) vs) = true :=
      Sparse.wfFrom_ofList (le_refl _)
    cases i with
    | zero =>
      by_cases hv : v = blank
      · simp only [Sparse.ofList, hv, if_true, Nat.add_zero, List.getD_cons_zero]
        exact Sparse.get_below hw (by omega)
      · simp [Sparse.ofList, hv, Sparse.get]
    | succ i =>
      have ih := Sparse.get_ofList (vs := vs) (k := k + 1) (i := i)
      have e : k + (i + 1) = k + 1 + i := by omega
      by_cases hv : v = blank
      · simpa [Sparse.ofList, hv, e] using ih
      · have : k ≠ k + 1 + i := by omega
        simpa [Sparse.ofList, hv, Sparse.get, e, this] using ih

/-! ### The same for the byte storage of a region -/

theorem Memory.wf_set {b : Byte} {m : Memory} {i : Nat} {v : Byte} (h : Memory.wf b size m = true) (hi : i < size) :
    Memory.wf b size (Memory.set b m i v) = true :=
  Sparse.wfFrom_set h (Nat.zero_le _) hi

theorem Memory.get_set {b : Byte} {m : Memory} {i j : Nat} {v : Byte} (h : Memory.wf b size m = true) :
    Memory.get b (Memory.set b m i v) j = if j = i then v else Memory.get b m j :=
  Sparse.get_set h

theorem Memory.wf_ofBytes {b : Byte} {bs : List Byte} : Memory.wf b size (Memory.ofBytes b size bs) = true :=
  Sparse.wfFrom_ofList (by simp)

theorem Memory.get_ofBytes {b : Byte} {bs : List Byte} {i : Nat} (hi : i < size) :
    Memory.get b (Memory.ofBytes b size bs) i = bs.getD i b := by
  have h := Sparse.get_ofList (blank := b) (vs := bs.take size) (k := 0) (i := i)
  simp only [Nat.zero_add] at h
  simp only [Memory.get, Memory.ofBytes, h, List.getD_eq_getElem?_getD, List.getElem?_take, hi, if_true]

/-- Two canonical storages that read alike are one. -/
theorem Sparse.ext_get : ∀ {m m' : List (Nat × α)} {lo : Nat},
    Sparse.wfFrom blank size lo m = true → Sparse.wfFrom blank size lo m' = true →
      (∀ i, Sparse.get blank m i = Sparse.get blank m' i) → m = m'
  | [], [], _, _, _, _ => rfl
  | [], (k, v) :: m', _, _, h', e => by
    simp only [Sparse.wfFrom, Bool.and_eq_true, decide_eq_true_eq] at h'
    have := e k
    simp only [Sparse.get, if_true] at this
    exact absurd this.symm h'.1.2
  | (k, v) :: m, [], _, h, _, e => by
    simp only [Sparse.wfFrom, Bool.and_eq_true, decide_eq_true_eq] at h
    have := e k
    simp only [Sparse.get, if_true] at this
    exact absurd this h.1.2
  | (k, v) :: m, (k', v') :: m', lo, h, h', e => by
    simp only [Sparse.wfFrom, Bool.and_eq_true, decide_eq_true_eq] at h h'
    obtain ⟨⟨⟨h1, h2⟩, h3⟩, h4⟩ := h
    obtain ⟨⟨⟨g1, g2⟩, g3⟩, g4⟩ := h'
    have hk : k = k' := by
      rcases Nat.lt_trichotomy k k' with hlt | heq | hgt
      · have := e k
        have hne : k' ≠ k := by omega
        simp only [Sparse.get, if_true, hne, if_false] at this
        rw [Sparse.get_below g4 (by omega)] at this
        exact absurd this h3
      · exact heq
      · have := e k'
        have hne : k ≠ k' := by omega
        simp only [Sparse.get, if_true, hne, if_false] at this
        rw [Sparse.get_below h4 (by omega)] at this
        exact absurd this.symm g3
    subst hk
    have hv : v = v' := by have := e k; simpa [Sparse.get] using this
    subst hv
    have : m = m' := Sparse.ext_get h4 g4 fun i => by
      by_cases hi : k = i
      · subst hi
        rw [Sparse.get_below h4 (by omega), Sparse.get_below g4 (by omega)]
      · have := e i
        simpa [Sparse.get, hi] using this
    rw [this]

end Sys2Proof.Machine
end

