-- ==== Sys2Proof/Laws/State.lean ====
section
/-! SUPPORT. What each update of the state does to each field, so that no proof unfolds a record update. -/

namespace Sys2Proof.Machine

/-! ### Updates that write fixed fields -/

@[simp] theorem State.putReg_regs (s : State) (r : Reg8) (v : Byte) : (s.putReg r v).regs = s.regs.put r v := rfl
@[simp] theorem State.putReg_sp (s : State) (r : Reg8) (v : Byte) : (s.putReg r v).sp = s.sp := rfl
@[simp] theorem State.putReg_pc (s : State) (r : Reg8) (v : Byte) : (s.putReg r v).pc = s.pc := rfl
@[simp] theorem State.putReg_ime (s : State) (r : Reg8) (v : Byte) : (s.putReg r v).ime = s.ime := rfl
@[simp] theorem State.putReg_halted (s : State) (r : Reg8) (v : Byte) : (s.putReg r v).halted = s.halted := rfl
@[simp] theorem State.putReg_fault (s : State) (r : Reg8) (v : Byte) : (s.putReg r v).fault = s.fault := rfl
@[simp] theorem State.putReg_skip (s : State) (r : Reg8) (v : Byte) : (s.putReg r v).skip = s.skip := rfl
@[simp] theorem State.putReg_cycles (s : State) (r : Reg8) (v : Byte) : (s.putReg r v).cycles = s.cycles := rfl
@[simp] theorem State.putReg_bus (s : State) (r : Reg8) (v : Byte) : (s.putReg r v).bus = s.bus := rfl
@[simp] theorem State.putReg_ppu (s : State) (r : Reg8) (v : Byte) : (s.putReg r v).ppu = s.ppu := rfl
@[simp] theorem State.putReg_frameCycles (s : State) (r : Reg8) (v : Byte) :
    (s.putReg r v).frameCycles = s.frameCycles := rfl
@[simp] theorem State.putReg_config (s : State) (r : Reg8) (v : Byte) : (s.putReg r v).config = s.config := rfl

@[simp] theorem State.putHl_regs (s : State) (v : Word) : (s.putHl v).regs = s.regs.putHl v := rfl
@[simp] theorem State.putHl_sp (s : State) (v : Word) : (s.putHl v).sp = s.sp := rfl
@[simp] theorem State.putHl_pc (s : State) (v : Word) : (s.putHl v).pc = s.pc := rfl
@[simp] theorem State.putHl_ime (s : State) (v : Word) : (s.putHl v).ime = s.ime := rfl
@[simp] theorem State.putHl_halted (s : State) (v : Word) : (s.putHl v).halted = s.halted := rfl
@[simp] theorem State.putHl_fault (s : State) (v : Word) : (s.putHl v).fault = s.fault := rfl
@[simp] theorem State.putHl_skip (s : State) (v : Word) : (s.putHl v).skip = s.skip := rfl
@[simp] theorem State.putHl_cycles (s : State) (v : Word) : (s.putHl v).cycles = s.cycles := rfl
@[simp] theorem State.putHl_bus (s : State) (v : Word) : (s.putHl v).bus = s.bus := rfl
@[simp] theorem State.putHl_ppu (s : State) (v : Word) : (s.putHl v).ppu = s.ppu := rfl
@[simp] theorem State.putHl_frameCycles (s : State) (v : Word) : (s.putHl v).frameCycles = s.frameCycles := rfl
@[simp] theorem State.putHl_config (s : State) (v : Word) : (s.putHl v).config = s.config := rfl

@[simp] theorem State.putF_regs (s : State) (f : Byte) : (s.putF f).regs = { s.regs with f := f } := rfl
@[simp] theorem State.putF_sp (s : State) (f : Byte) : (s.putF f).sp = s.sp := rfl
@[simp] theorem State.putF_pc (s : State) (f : Byte) : (s.putF f).pc = s.pc := rfl
@[simp] theorem State.putF_ime (s : State) (f : Byte) : (s.putF f).ime = s.ime := rfl
@[simp] theorem State.putF_halted (s : State) (f : Byte) : (s.putF f).halted = s.halted := rfl
@[simp] theorem State.putF_fault (s : State) (f : Byte) : (s.putF f).fault = s.fault := rfl
@[simp] theorem State.putF_skip (s : State) (f : Byte) : (s.putF f).skip = s.skip := rfl
@[simp] theorem State.putF_cycles (s : State) (f : Byte) : (s.putF f).cycles = s.cycles := rfl
@[simp] theorem State.putF_bus (s : State) (f : Byte) : (s.putF f).bus = s.bus := rfl
@[simp] theorem State.putF_ppu (s : State) (f : Byte) : (s.putF f).ppu = s.ppu := rfl
@[simp] theorem State.putF_frameCycles (s : State) (f : Byte) : (s.putF f).frameCycles = s.frameCycles := rfl
@[simp] theorem State.putF_config (s : State) (f : Byte) : (s.putF f).config = s.config := rfl

@[simp] theorem State.putFlags_regs (s : State) (z n h c : Bool) :
    (s.putFlags z n h c).regs = { s.regs with f := putZNHC z n h c s.regs.f } := rfl
@[simp] theorem State.putFlags_sp (s : State) (z n h c : Bool) : (s.putFlags z n h c).sp = s.sp := rfl
@[simp] theorem State.putFlags_pc (s : State) (z n h c : Bool) : (s.putFlags z n h c).pc = s.pc := rfl
@[simp] theorem State.putFlags_ime (s : State) (z n h c : Bool) : (s.putFlags z n h c).ime = s.ime := rfl
@[simp] theorem State.putFlags_halted (s : State) (z n h c : Bool) : (s.putFlags z n h c).halted = s.halted := rfl
@[simp] theorem State.putFlags_fault (s : State) (z n h c : Bool) : (s.putFlags z n h c).fault = s.fault := rfl
@[simp] theorem State.putFlags_skip (s : State) (z n h c : Bool) : (s.putFlags z n h c).skip = s.skip := rfl
@[simp] theorem State.putFlags_cycles (s : State) (z n h c : Bool) : (s.putFlags z n h c).cycles = s.cycles := rfl
@[simp] theorem State.putFlags_bus (s : State) (z n h c : Bool) : (s.putFlags z n h c).bus = s.bus := rfl
@[simp] theorem State.putFlags_ppu (s : State) (z n h c : Bool) : (s.putFlags z n h c).ppu = s.ppu := rfl
@[simp] theorem State.putFlags_frameCycles (s : State) (z n h c : Bool) :
    (s.putFlags z n h c).frameCycles = s.frameCycles := rfl
@[simp] theorem State.putFlags_config (s : State) (z n h c : Bool) : (s.putFlags z n h c).config = s.config := rfl

@[simp] theorem State.putZNH_regs (s : State) (z n h : Bool) :
    (s.putZNH z n h).regs = { s.regs with f := putH h (putN n (putZ z s.regs.f)) } := rfl
@[simp] theorem State.putZNH_sp (s : State) (z n h : Bool) : (s.putZNH z n h).sp = s.sp := rfl
@[simp] theorem State.putZNH_pc (s : State) (z n h : Bool) : (s.putZNH z n h).pc = s.pc := rfl
@[simp] theorem State.putZNH_ime (s : State) (z n h : Bool) : (s.putZNH z n h).ime = s.ime := rfl
@[simp] theorem State.putZNH_halted (s : State) (z n h : Bool) : (s.putZNH z n h).halted = s.halted := rfl
@[simp] theorem State.putZNH_fault (s : State) (z n h : Bool) : (s.putZNH z n h).fault = s.fault := rfl
@[simp] theorem State.putZNH_skip (s : State) (z n h : Bool) : (s.putZNH z n h).skip = s.skip := rfl
@[simp] theorem State.putZNH_cycles (s : State) (z n h : Bool) : (s.putZNH z n h).cycles = s.cycles := rfl
@[simp] theorem State.putZNH_bus (s : State) (z n h : Bool) : (s.putZNH z n h).bus = s.bus := rfl
@[simp] theorem State.putZNH_ppu (s : State) (z n h : Bool) : (s.putZNH z n h).ppu = s.ppu := rfl
@[simp] theorem State.putZNH_frameCycles (s : State) (z n h : Bool) :
    (s.putZNH z n h).frameCycles = s.frameCycles := rfl
@[simp] theorem State.putZNH_config (s : State) (z n h : Bool) : (s.putZNH z n h).config = s.config := rfl

@[simp] theorem State.putNHC_regs (s : State) (n h c : Bool) :
    (s.putNHC n h c).regs = { s.regs with f := putC c (putH h (putN n s.regs.f)) } := rfl
@[simp] theorem State.putNHC_sp (s : State) (n h c : Bool) : (s.putNHC n h c).sp = s.sp := rfl
@[simp] theorem State.putNHC_pc (s : State) (n h c : Bool) : (s.putNHC n h c).pc = s.pc := rfl
@[simp] theorem State.putNHC_ime (s : State) (n h c : Bool) : (s.putNHC n h c).ime = s.ime := rfl
@[simp] theorem State.putNHC_halted (s : State) (n h c : Bool) : (s.putNHC n h c).halted = s.halted := rfl
@[simp] theorem State.putNHC_fault (s : State) (n h c : Bool) : (s.putNHC n h c).fault = s.fault := rfl
@[simp] theorem State.putNHC_skip (s : State) (n h c : Bool) : (s.putNHC n h c).skip = s.skip := rfl
@[simp] theorem State.putNHC_cycles (s : State) (n h c : Bool) : (s.putNHC n h c).cycles = s.cycles := rfl
@[simp] theorem State.putNHC_bus (s : State) (n h c : Bool) : (s.putNHC n h c).bus = s.bus := rfl
@[simp] theorem State.putNHC_ppu (s : State) (n h c : Bool) : (s.putNHC n h c).ppu = s.ppu := rfl
@[simp] theorem State.putNHC_frameCycles (s : State) (n h c : Bool) :
    (s.putNHC n h c).frameCycles = s.frameCycles := rfl
@[simp] theorem State.putNHC_config (s : State) (n h c : Bool) : (s.putNHC n h c).config = s.config := rfl

@[simp] theorem State.putIo_regs (s : State) (i : Nat) (v : Byte) : (s.putIo i v).regs = s.regs := rfl
@[simp] theorem State.putIo_sp (s : State) (i : Nat) (v : Byte) : (s.putIo i v).sp = s.sp := rfl
@[simp] theorem State.putIo_pc (s : State) (i : Nat) (v : Byte) : (s.putIo i v).pc = s.pc := rfl
@[simp] theorem State.putIo_ime (s : State) (i : Nat) (v : Byte) : (s.putIo i v).ime = s.ime := rfl
@[simp] theorem State.putIo_halted (s : State) (i : Nat) (v : Byte) : (s.putIo i v).halted = s.halted := rfl
@[simp] theorem State.putIo_fault (s : State) (i : Nat) (v : Byte) : (s.putIo i v).fault = s.fault := rfl
@[simp] theorem State.putIo_skip (s : State) (i : Nat) (v : Byte) : (s.putIo i v).skip = s.skip := rfl
@[simp] theorem State.putIo_cycles (s : State) (i : Nat) (v : Byte) : (s.putIo i v).cycles = s.cycles := rfl
@[simp] theorem State.putIo_bus (s : State) (i : Nat) (v : Byte) :
    (s.putIo i v).bus = { s.bus with io := s.bus.io.set blankByte i v } := rfl
@[simp] theorem State.putIo_ppu (s : State) (i : Nat) (v : Byte) : (s.putIo i v).ppu = s.ppu := rfl
@[simp] theorem State.putIo_frameCycles (s : State) (i : Nat) (v : Byte) :
    (s.putIo i v).frameCycles = s.frameCycles := rfl
@[simp] theorem State.putIo_config (s : State) (i : Nat) (v : Byte) : (s.putIo i v).config = s.config := rfl

@[simp] theorem State.poke_regs (s : State) (a : Word) (v : Byte) : (s.poke a v).regs = s.regs := rfl
@[simp] theorem State.poke_sp (s : State) (a : Word) (v : Byte) : (s.poke a v).sp = s.sp := rfl
@[simp] theorem State.poke_pc (s : State) (a : Word) (v : Byte) : (s.poke a v).pc = s.pc := rfl
@[simp] theorem State.poke_ime (s : State) (a : Word) (v : Byte) : (s.poke a v).ime = s.ime := rfl
@[simp] theorem State.poke_halted (s : State) (a : Word) (v : Byte) : (s.poke a v).halted = s.halted := rfl
@[simp] theorem State.poke_fault (s : State) (a : Word) (v : Byte) : (s.poke a v).fault = s.fault := rfl
@[simp] theorem State.poke_skip (s : State) (a : Word) (v : Byte) : (s.poke a v).skip = s.skip := rfl
@[simp] theorem State.poke_cycles (s : State) (a : Word) (v : Byte) : (s.poke a v).cycles = s.cycles := rfl
@[simp] theorem State.poke_bus (s : State) (a : Word) (v : Byte) : (s.poke a v).bus = s.bus.pokeSlot (s.slot a) v := rfl
@[simp] theorem State.poke_ppu (s : State) (a : Word) (v : Byte) : (s.poke a v).ppu = s.ppu := rfl
@[simp] theorem State.poke_frameCycles (s : State) (a : Word) (v : Byte) :
    (s.poke a v).frameCycles = s.frameCycles := rfl
@[simp] theorem State.poke_config (s : State) (a : Word) (v : Byte) : (s.poke a v).config = s.config := rfl

@[simp] theorem State.bankSelect_regs (s : State) (v : Byte) : (s.bankSelect v).regs = s.regs := rfl
@[simp] theorem State.bankSelect_sp (s : State) (v : Byte) : (s.bankSelect v).sp = s.sp := rfl
@[simp] theorem State.bankSelect_pc (s : State) (v : Byte) : (s.bankSelect v).pc = s.pc := rfl
@[simp] theorem State.bankSelect_ime (s : State) (v : Byte) : (s.bankSelect v).ime = s.ime := rfl
@[simp] theorem State.bankSelect_halted (s : State) (v : Byte) : (s.bankSelect v).halted = s.halted := rfl
@[simp] theorem State.bankSelect_fault (s : State) (v : Byte) : (s.bankSelect v).fault = s.fault := rfl
@[simp] theorem State.bankSelect_skip (s : State) (v : Byte) : (s.bankSelect v).skip = s.skip := rfl
@[simp] theorem State.bankSelect_cycles (s : State) (v : Byte) : (s.bankSelect v).cycles = s.cycles := rfl
@[simp] theorem State.bankSelect_bus (s : State) (v : Byte) :
    (s.bankSelect v).bus = { s.bus with romBank := bankOf v } := rfl
@[simp] theorem State.bankSelect_ppu (s : State) (v : Byte) : (s.bankSelect v).ppu = s.ppu := rfl
@[simp] theorem State.bankSelect_frameCycles (s : State) (v : Byte) :
    (s.bankSelect v).frameCycles = s.frameCycles := rfl
@[simp] theorem State.bankSelect_config (s : State) (v : Byte) : (s.bankSelect v).config = s.config := rfl

@[simp] theorem State.popped_regs (s : State) : (s.popped).regs = s.regs := rfl
@[simp] theorem State.popped_sp (s : State) : (s.popped).sp = s.sp + 1 + 1 := rfl
@[simp] theorem State.popped_pc (s : State) : (s.popped).pc = s.pc := rfl
@[simp] theorem State.popped_ime (s : State) : (s.popped).ime = s.ime := rfl
@[simp] theorem State.popped_halted (s : State) : (s.popped).halted = s.halted := rfl
@[simp] theorem State.popped_fault (s : State) : (s.popped).fault = s.fault := rfl
@[simp] theorem State.popped_skip (s : State) : (s.popped).skip = s.skip := rfl
@[simp] theorem State.popped_cycles (s : State) : (s.popped).cycles = s.cycles := rfl
@[simp] theorem State.popped_bus (s : State) : (s.popped).bus = s.bus := rfl
@[simp] theorem State.popped_ppu (s : State) : (s.popped).ppu = s.ppu := rfl
@[simp] theorem State.popped_frameCycles (s : State) : (s.popped).frameCycles = s.frameCycles := rfl
@[simp] theorem State.popped_config (s : State) : (s.popped).config = s.config := rfl

@[simp] theorem State.jump_regs (s : State) (a : Word) : (s.jump a).regs = s.regs := rfl
@[simp] theorem State.jump_sp (s : State) (a : Word) : (s.jump a).sp = s.sp := rfl
@[simp] theorem State.jump_pc (s : State) (a : Word) : (s.jump a).pc = a := rfl
@[simp] theorem State.jump_ime (s : State) (a : Word) : (s.jump a).ime = s.ime := rfl
@[simp] theorem State.jump_halted (s : State) (a : Word) : (s.jump a).halted = s.halted := rfl
@[simp] theorem State.jump_fault (s : State) (a : Word) : (s.jump a).fault = s.fault := rfl
@[simp] theorem State.jump_skip (s : State) (a : Word) : (s.jump a).skip = true := rfl
@[simp] theorem State.jump_cycles (s : State) (a : Word) : (s.jump a).cycles = s.cycles := rfl
@[simp] theorem State.jump_bus (s : State) (a : Word) : (s.jump a).bus = s.bus := rfl
@[simp] theorem State.jump_ppu (s : State) (a : Word) : (s.jump a).ppu = s.ppu := rfl
@[simp] theorem State.jump_frameCycles (s : State) (a : Word) : (s.jump a).frameCycles = s.frameCycles := rfl
@[simp] theorem State.jump_config (s : State) (a : Word) : (s.jump a).config = s.config := rfl

@[simp] theorem State.begin_regs (s : State) (c : Nat) : (s.begin c).regs = s.regs := rfl
@[simp] theorem State.begin_sp (s : State) (c : Nat) : (s.begin c).sp = s.sp := rfl
@[simp] theorem State.begin_pc (s : State) (c : Nat) : (s.begin c).pc = s.pc := rfl
@[simp] theorem State.begin_ime (s : State) (c : Nat) : (s.begin c).ime = s.ime := rfl
@[simp] theorem State.begin_halted (s : State) (c : Nat) : (s.begin c).halted = s.halted := rfl
@[simp] theorem State.begin_fault (s : State) (c : Nat) : (s.begin c).fault = s.fault := rfl
@[simp] theorem State.begin_skip (s : State) (c : Nat) : (s.begin c).skip = false := rfl
@[simp] theorem State.begin_cycles (s : State) (c : Nat) : (s.begin c).cycles = c := rfl
@[simp] theorem State.begin_bus (s : State) (c : Nat) : (s.begin c).bus = s.bus := rfl
@[simp] theorem State.begin_ppu (s : State) (c : Nat) : (s.begin c).ppu = s.ppu := rfl
@[simp] theorem State.begin_frameCycles (s : State) (c : Nat) : (s.begin c).frameCycles = s.frameCycles := rfl
@[simp] theorem State.begin_config (s : State) (c : Nat) : (s.begin c).config = s.config := rfl

@[simp] theorem State.putCycles_regs (s : State) (c : Nat) : (s.putCycles c).regs = s.regs := rfl
@[simp] theorem State.putCycles_sp (s : State) (c : Nat) : (s.putCycles c).sp = s.sp := rfl
@[simp] theorem State.putCycles_pc (s : State) (c : Nat) : (s.putCycles c).pc = s.pc := rfl
@[simp] theorem State.putCycles_ime (s : State) (c : Nat) : (s.putCycles c).ime = s.ime := rfl
@[simp] theorem State.putCycles_halted (s : State) (c : Nat) : (s.putCycles c).halted = s.halted := rfl
@[simp] theorem State.putCycles_fault (s : State) (c : Nat) : (s.putCycles c).fault = s.fault := rfl
@[simp] theorem State.putCycles_skip (s : State) (c : Nat) : (s.putCycles c).skip = s.skip := rfl
@[simp] theorem State.putCycles_cycles (s : State) (c : Nat) : (s.putCycles c).cycles = c := rfl
@[simp] theorem State.putCycles_bus (s : State) (c : Nat) : (s.putCycles c).bus = s.bus := rfl
@[simp] theorem State.putCycles_ppu (s : State) (c : Nat) : (s.putCycles c).ppu = s.ppu := rfl
@[simp] theorem State.putCycles_frameCycles (s : State) (c : Nat) : (s.putCycles c).frameCycles = s.frameCycles := rfl
@[simp] theorem State.putCycles_config (s : State) (c : Nat) : (s.putCycles c).config = s.config := rfl

@[simp] theorem State.raise_regs (s : State) (e : Fault) : (s.raise e).regs = s.regs := rfl
@[simp] theorem State.raise_sp (s : State) (e : Fault) : (s.raise e).sp = s.sp := rfl
@[simp] theorem State.raise_pc (s : State) (e : Fault) : (s.raise e).pc = s.pc := rfl
@[simp] theorem State.raise_ime (s : State) (e : Fault) : (s.raise e).ime = s.ime := rfl
@[simp] theorem State.raise_halted (s : State) (e : Fault) : (s.raise e).halted = s.halted := rfl
@[simp] theorem State.raise_fault (s : State) (e : Fault) : (s.raise e).fault = some e := rfl
@[simp] theorem State.raise_skip (s : State) (e : Fault) : (s.raise e).skip = s.skip := rfl
@[simp] theorem State.raise_cycles (s : State) (e : Fault) : (s.raise e).cycles = s.cycles := rfl
@[simp] theorem State.raise_bus (s : State) (e : Fault) : (s.raise e).bus = s.bus := rfl
@[simp] theorem State.raise_ppu (s : State) (e : Fault) : (s.raise e).ppu = s.ppu := rfl
@[simp] theorem State.raise_frameCycles (s : State) (e : Fault) : (s.raise e).frameCycles = s.frameCycles := rfl
@[simp] theorem State.raise_config (s : State) (e : Fault) : (s.raise e).config = s.config := rfl

@[simp] theorem State.enterHalt_regs (s : State) : (s.enterHalt).regs = s.regs := rfl
@[simp] theorem State.enterHalt_sp (s : State) : (s.enterHalt).sp = s.sp := rfl
@[simp] theorem State.enterHalt_pc (s : State) : (s.enterHalt).pc = s.pc := rfl
@[simp] theorem State.enterHalt_ime (s : State) : (s.enterHalt).ime = s.ime := rfl
@[simp] theorem State.enterHalt_halted (s : State) : (s.enterHalt).halted = true := rfl
@[simp] theorem State.enterHalt_fault (s : State) : (s.enterHalt).fault = s.fault := rfl
@[simp] theorem State.enterHalt_skip (s : State) : (s.enterHalt).skip = s.skip := rfl
@[simp] theorem State.enterHalt_cycles (s : State) : (s.enterHalt).cycles = s.cycles := rfl
@[simp] theorem State.enterHalt_bus (s : State) : (s.enterHalt).bus = s.bus := rfl
@[simp] theorem State.enterHalt_ppu (s : State) : (s.enterHalt).ppu = s.ppu := rfl
@[simp] theorem State.enterHalt_frameCycles (s : State) : (s.enterHalt).frameCycles = s.frameCycles := rfl
@[simp] theorem State.enterHalt_config (s : State) : (s.enterHalt).config = s.config := rfl

@[simp] theorem State.putIme_regs (s : State) (v : Bool) : (s.putIme v).regs = s.regs := rfl
@[simp] theorem State.putIme_sp (s : State) (v : Bool) : (s.putIme v).sp = s.sp := rfl
@[simp] theorem State.putIme_pc (s : State) (v : Bool) : (s.putIme v).pc = s.pc := rfl
@[simp] theorem State.putIme_ime (s : State) (v : Bool) : (s.putIme v).ime = v := rfl
@[simp] theorem State.putIme_halted (s : State) (v : Bool) : (s.putIme v).halted = s.halted := rfl
@[simp] theorem State.putIme_fault (s : State) (v : Bool) : (s.putIme v).fault = s.fault := rfl
@[simp] theorem State.putIme_skip (s : State) (v : Bool) : (s.putIme v).skip = s.skip := rfl
@[simp] theorem State.putIme_cycles (s : State) (v : Bool) : (s.putIme v).cycles = s.cycles := rfl
@[simp] theorem State.putIme_bus (s : State) (v : Bool) : (s.putIme v).bus = s.bus := rfl
@[simp] theorem State.putIme_ppu (s : State) (v : Bool) : (s.putIme v).ppu = s.ppu := rfl
@[simp] theorem State.putIme_frameCycles (s : State) (v : Bool) : (s.putIme v).frameCycles = s.frameCycles := rfl
@[simp] theorem State.putIme_config (s : State) (v : Bool) : (s.putIme v).config = s.config := rfl

@[simp] theorem State.putLy_regs (s : State) (v : Byte) : (s.putLy v).regs = s.regs := rfl
@[simp] theorem State.putLy_sp (s : State) (v : Byte) : (s.putLy v).sp = s.sp := rfl
@[simp] theorem State.putLy_pc (s : State) (v : Byte) : (s.putLy v).pc = s.pc := rfl
@[simp] theorem State.putLy_ime (s : State) (v : Byte) : (s.putLy v).ime = s.ime := rfl
@[simp] theorem State.putLy_halted (s : State) (v : Byte) : (s.putLy v).halted = s.halted := rfl
@[simp] theorem State.putLy_fault (s : State) (v : Byte) : (s.putLy v).fault = s.fault := rfl
@[simp] theorem State.putLy_skip (s : State) (v : Byte) : (s.putLy v).skip = s.skip := rfl
@[simp] theorem State.putLy_cycles (s : State) (v : Byte) : (s.putLy v).cycles = s.cycles := rfl
@[simp] theorem State.putLy_bus (s : State) (v : Byte) :
    (s.putLy v).bus = { s.bus with io := s.bus.io.set blankByte 0x44 v } := rfl
@[simp] theorem State.putLy_ppu (s : State) (v : Byte) : (s.putLy v).ppu = s.ppu := rfl
@[simp] theorem State.putLy_frameCycles (s : State) (v : Byte) : (s.putLy v).frameCycles = s.frameCycles := rfl
@[simp] theorem State.putLy_config (s : State) (v : Byte) : (s.putLy v).config = s.config := rfl

@[simp] theorem State.setMode_regs (s : State) (m : Mode) : (s.setMode m).regs = s.regs := rfl
@[simp] theorem State.setMode_sp (s : State) (m : Mode) : (s.setMode m).sp = s.sp := rfl
@[simp] theorem State.setMode_pc (s : State) (m : Mode) : (s.setMode m).pc = s.pc := rfl
@[simp] theorem State.setMode_ime (s : State) (m : Mode) : (s.setMode m).ime = s.ime := rfl
@[simp] theorem State.setMode_halted (s : State) (m : Mode) : (s.setMode m).halted = s.halted := rfl
@[simp] theorem State.setMode_fault (s : State) (m : Mode) : (s.setMode m).fault = s.fault := rfl
@[simp] theorem State.setMode_skip (s : State) (m : Mode) : (s.setMode m).skip = s.skip := rfl
@[simp] theorem State.setMode_cycles (s : State) (m : Mode) : (s.setMode m).cycles = s.cycles := rfl
@[simp] theorem State.setMode_bus (s : State) (m : Mode) :
    (s.setMode m).bus = (s.putIo 0x41 ((s.stat &&& 0xFC#8) ||| m.code)).bus := rfl
@[simp] theorem State.setMode_ppu (s : State) (m : Mode) : (s.setMode m).ppu = { s.ppu with mode := m } := rfl
@[simp] theorem State.setMode_frameCycles (s : State) (m : Mode) : (s.setMode m).frameCycles = s.frameCycles := rfl
@[simp] theorem State.setMode_config (s : State) (m : Mode) : (s.setMode m).config = s.config := rfl

@[simp] theorem State.advanceDiv_regs (s : State) (c : Nat) : (s.advanceDiv c).regs = s.regs := rfl
@[simp] theorem State.advanceDiv_sp (s : State) (c : Nat) : (s.advanceDiv c).sp = s.sp := rfl
@[simp] theorem State.advanceDiv_pc (s : State) (c : Nat) : (s.advanceDiv c).pc = s.pc := rfl
@[simp] theorem State.advanceDiv_ime (s : State) (c : Nat) : (s.advanceDiv c).ime = s.ime := rfl
@[simp] theorem State.advanceDiv_halted (s : State) (c : Nat) : (s.advanceDiv c).halted = s.halted := rfl
@[simp] theorem State.advanceDiv_fault (s : State) (c : Nat) : (s.advanceDiv c).fault = s.fault := rfl
@[simp] theorem State.advanceDiv_skip (s : State) (c : Nat) : (s.advanceDiv c).skip = s.skip := rfl
@[simp] theorem State.advanceDiv_cycles (s : State) (c : Nat) : (s.advanceDiv c).cycles = s.cycles := rfl
@[simp] theorem State.advanceDiv_bus (s : State) (c : Nat) :
    (s.advanceDiv c).bus = { s.bus with divCounter := s.bus.divCounter + BitVec.ofNat 16 c } := rfl
@[simp] theorem State.advanceDiv_ppu (s : State) (c : Nat) : (s.advanceDiv c).ppu = s.ppu := rfl
@[simp] theorem State.advanceDiv_frameCycles (s : State) (c : Nat) : (s.advanceDiv c).frameCycles = s.frameCycles := rfl
@[simp] theorem State.advanceDiv_config (s : State) (c : Nat) : (s.advanceDiv c).config = s.config := rfl

@[simp] theorem State.setPalette_regs (s : State) (p : Palette) : (s.setPalette p).regs = s.regs := rfl
@[simp] theorem State.setPalette_sp (s : State) (p : Palette) : (s.setPalette p).sp = s.sp := rfl
@[simp] theorem State.setPalette_pc (s : State) (p : Palette) : (s.setPalette p).pc = s.pc := rfl
@[simp] theorem State.setPalette_ime (s : State) (p : Palette) : (s.setPalette p).ime = s.ime := rfl
@[simp] theorem State.setPalette_halted (s : State) (p : Palette) : (s.setPalette p).halted = s.halted := rfl
@[simp] theorem State.setPalette_fault (s : State) (p : Palette) : (s.setPalette p).fault = s.fault := rfl
@[simp] theorem State.setPalette_skip (s : State) (p : Palette) : (s.setPalette p).skip = s.skip := rfl
@[simp] theorem State.setPalette_cycles (s : State) (p : Palette) : (s.setPalette p).cycles = s.cycles := rfl
@[simp] theorem State.setPalette_bus (s : State) (p : Palette) : (s.setPalette p).bus = s.bus := rfl
@[simp] theorem State.setPalette_ppu (s : State) (p : Palette) :
    (s.setPalette p).ppu = { s.ppu with palette := p } := rfl
@[simp] theorem State.setPalette_frameCycles (s : State) (p : Palette) :
    (s.setPalette p).frameCycles = s.frameCycles := rfl
@[simp] theorem State.setPalette_config (s : State) (p : Palette) : (s.setPalette p).config = s.config := rfl

@[simp] theorem State.done_regs (s : State) (len c : Nat) : (s.done len c).regs = s.regs := rfl
@[simp] theorem State.done_sp (s : State) (len c : Nat) : (s.done len c).sp = s.sp := rfl
@[simp] theorem State.done_pc (s : State) (len c : Nat) : (s.done len c).pc = s.pc + BitVec.ofNat 16 len := rfl
@[simp] theorem State.done_ime (s : State) (len c : Nat) : (s.done len c).ime = s.ime := rfl
@[simp] theorem State.done_halted (s : State) (len c : Nat) : (s.done len c).halted = s.halted := rfl
@[simp] theorem State.done_fault (s : State) (len c : Nat) : (s.done len c).fault = s.fault := rfl
@[simp] theorem State.done_skip (s : State) (len c : Nat) : (s.done len c).skip = false := rfl
@[simp] theorem State.done_cycles (s : State) (len c : Nat) : (s.done len c).cycles = c := rfl
@[simp] theorem State.done_bus (s : State) (len c : Nat) : (s.done len c).bus = s.bus := rfl
@[simp] theorem State.done_ppu (s : State) (len c : Nat) : (s.done len c).ppu = s.ppu := rfl
@[simp] theorem State.done_frameCycles (s : State) (len c : Nat) : (s.done len c).frameCycles = s.frameCycles := rfl
@[simp] theorem State.done_config (s : State) (len c : Nat) : (s.done len c).config = s.config := rfl

@[simp] theorem State.goto_regs (s : State) (a : Word) (c : Nat) : (s.goto a c).regs = s.regs := rfl
@[simp] theorem State.goto_sp (s : State) (a : Word) (c : Nat) : (s.goto a c).sp = s.sp := rfl
@[simp] theorem State.goto_pc (s : State) (a : Word) (c : Nat) : (s.goto a c).pc = a := rfl
@[simp] theorem State.goto_ime (s : State) (a : Word) (c : Nat) : (s.goto a c).ime = s.ime := rfl
@[simp] theorem State.goto_halted (s : State) (a : Word) (c : Nat) : (s.goto a c).halted = s.halted := rfl
@[simp] theorem State.goto_fault (s : State) (a : Word) (c : Nat) : (s.goto a c).fault = s.fault := rfl
@[simp] theorem State.goto_skip (s : State) (a : Word) (c : Nat) : (s.goto a c).skip = false := rfl
@[simp] theorem State.goto_cycles (s : State) (a : Word) (c : Nat) : (s.goto a c).cycles = c := rfl
@[simp] theorem State.goto_bus (s : State) (a : Word) (c : Nat) : (s.goto a c).bus = s.bus := rfl
@[simp] theorem State.goto_ppu (s : State) (a : Word) (c : Nat) : (s.goto a c).ppu = s.ppu := rfl
@[simp] theorem State.goto_frameCycles (s : State) (a : Word) (c : Nat) :
    (s.goto a c).frameCycles = s.frameCycles := rfl
@[simp] theorem State.goto_config (s : State) (a : Word) (c : Nat) : (s.goto a c).config = s.config := rfl

/-! ### Updates that branch: the fields no branch writes -/

@[simp] theorem State.putPair_pc (s : State) (p : Reg16) (v : Word) : (s.putPair p v).pc = s.pc := by cases p <;> rfl
@[simp] theorem State.putPair_ime (s : State) (p : Reg16) (v : Word) : (s.putPair p v).ime = s.ime := by cases p <;> rfl
@[simp] theorem State.putPair_halted (s : State) (p : Reg16) (v : Word) : (s.putPair p v).halted = s.halted := by
  cases p <;> rfl
@[simp] theorem State.putPair_fault (s : State) (p : Reg16) (v : Word) : (s.putPair p v).fault = s.fault := by
  cases p <;> rfl
@[simp] theorem State.putPair_skip (s : State) (p : Reg16) (v : Word) : (s.putPair p v).skip = s.skip := by
  cases p <;> rfl
@[simp] theorem State.putPair_cycles (s : State) (p : Reg16) (v : Word) : (s.putPair p v).cycles = s.cycles := by
  cases p <;> rfl
@[simp] theorem State.putPair_bus (s : State) (p : Reg16) (v : Word) : (s.putPair p v).bus = s.bus := by cases p <;> rfl
@[simp] theorem State.putPair_ppu (s : State) (p : Reg16) (v : Word) : (s.putPair p v).ppu = s.ppu := by cases p <;> rfl
@[simp] theorem State.putPair_frameCycles (s : State) (p : Reg16) (v : Word) : (s.putPair p v).frameCycles = s.frameCycles := by
  cases p <;> rfl
@[simp] theorem State.putPair_config (s : State) (p : Reg16) (v : Word) : (s.putPair p v).config = s.config := by
  cases p <;> rfl

@[simp] theorem State.putStk_sp (s : State) (p : RegStk) (v : Word) : (s.putStk p v).sp = s.sp := by cases p <;> rfl
@[simp] theorem State.putStk_pc (s : State) (p : RegStk) (v : Word) : (s.putStk p v).pc = s.pc := by cases p <;> rfl
@[simp] theorem State.putStk_ime (s : State) (p : RegStk) (v : Word) : (s.putStk p v).ime = s.ime := by cases p <;> rfl
@[simp] theorem State.putStk_halted (s : State) (p : RegStk) (v : Word) : (s.putStk p v).halted = s.halted := by
  cases p <;> rfl
@[simp] theorem State.putStk_fault (s : State) (p : RegStk) (v : Word) : (s.putStk p v).fault = s.fault := by
  cases p <;> rfl
@[simp] theorem State.putStk_skip (s : State) (p : RegStk) (v : Word) : (s.putStk p v).skip = s.skip := by
  cases p <;> rfl
@[simp] theorem State.putStk_cycles (s : State) (p : RegStk) (v : Word) : (s.putStk p v).cycles = s.cycles := by
  cases p <;> rfl
@[simp] theorem State.putStk_bus (s : State) (p : RegStk) (v : Word) : (s.putStk p v).bus = s.bus := by cases p <;> rfl
@[simp] theorem State.putStk_ppu (s : State) (p : RegStk) (v : Word) : (s.putStk p v).ppu = s.ppu := by cases p <;> rfl
@[simp] theorem State.putStk_frameCycles (s : State) (p : RegStk) (v : Word) : (s.putStk p v).frameCycles = s.frameCycles := by
  cases p <;> rfl
@[simp] theorem State.putStk_config (s : State) (p : RegStk) (v : Word) : (s.putStk p v).config = s.config := by
  cases p <;> rfl

@[simp] theorem State.memStep_sp (s : State) (p : RegMem) : (s.memStep p).sp = s.sp := by cases p <;> rfl
@[simp] theorem State.memStep_pc (s : State) (p : RegMem) : (s.memStep p).pc = s.pc := by cases p <;> rfl
@[simp] theorem State.memStep_ime (s : State) (p : RegMem) : (s.memStep p).ime = s.ime := by cases p <;> rfl
@[simp] theorem State.memStep_halted (s : State) (p : RegMem) : (s.memStep p).halted = s.halted := by cases p <;> rfl
@[simp] theorem State.memStep_fault (s : State) (p : RegMem) : (s.memStep p).fault = s.fault := by cases p <;> rfl
@[simp] theorem State.memStep_skip (s : State) (p : RegMem) : (s.memStep p).skip = s.skip := by cases p <;> rfl
@[simp] theorem State.memStep_cycles (s : State) (p : RegMem) : (s.memStep p).cycles = s.cycles := by cases p <;> rfl
@[simp] theorem State.memStep_bus (s : State) (p : RegMem) : (s.memStep p).bus = s.bus := by cases p <;> rfl
@[simp] theorem State.memStep_ppu (s : State) (p : RegMem) : (s.memStep p).ppu = s.ppu := by cases p <;> rfl
@[simp] theorem State.memStep_frameCycles (s : State) (p : RegMem) : (s.memStep p).frameCycles = s.frameCycles := by
  cases p <;> rfl
@[simp] theorem State.memStep_config (s : State) (p : RegMem) : (s.memStep p).config = s.config := by cases p <;> rfl

@[simp] theorem State.advance_regs (s : State) (n : Nat) : (s.advance n).regs = s.regs := by
  unfold State.advance; split <;> rfl
@[simp] theorem State.advance_sp (s : State) (n : Nat) : (s.advance n).sp = s.sp := by
  unfold State.advance; split <;> rfl
@[simp] theorem State.advance_ime (s : State) (n : Nat) : (s.advance n).ime = s.ime := by
  unfold State.advance; split <;> rfl
@[simp] theorem State.advance_halted (s : State) (n : Nat) : (s.advance n).halted = s.halted := by
  unfold State.advance; split <;> rfl
@[simp] theorem State.advance_fault (s : State) (n : Nat) : (s.advance n).fault = s.fault := by
  unfold State.advance; split <;> rfl
@[simp] theorem State.advance_cycles (s : State) (n : Nat) : (s.advance n).cycles = s.cycles := by
  unfold State.advance; split <;> rfl
@[simp] theorem State.advance_bus (s : State) (n : Nat) : (s.advance n).bus = s.bus := by
  unfold State.advance; split <;> rfl
@[simp] theorem State.advance_ppu (s : State) (n : Nat) : (s.advance n).ppu = s.ppu := by
  unfold State.advance; split <;> rfl
@[simp] theorem State.advance_frameCycles (s : State) (n : Nat) : (s.advance n).frameCycles = s.frameCycles := by
  unfold State.advance; split <;> rfl
@[simp] theorem State.advance_config (s : State) (n : Nat) : (s.advance n).config = s.config := by
  unfold State.advance; split <;> rfl

@[simp] theorem State.writeRom_regs (s : State) (a : Word) (v : Byte) : (s.writeRom a v).regs = s.regs := by
  unfold State.writeRom; dsimp only; split <;> split <;> rfl
@[simp] theorem State.writeRom_sp (s : State) (a : Word) (v : Byte) : (s.writeRom a v).sp = s.sp := by
  unfold State.writeRom; dsimp only; split <;> split <;> rfl
@[simp] theorem State.writeRom_pc (s : State) (a : Word) (v : Byte) : (s.writeRom a v).pc = s.pc := by
  unfold State.writeRom; dsimp only; split <;> split <;> rfl
@[simp] theorem State.writeRom_ime (s : State) (a : Word) (v : Byte) : (s.writeRom a v).ime = s.ime := by
  unfold State.writeRom; dsimp only; split <;> split <;> rfl
@[simp] theorem State.writeRom_halted (s : State) (a : Word) (v : Byte) : (s.writeRom a v).halted = s.halted := by
  unfold State.writeRom; dsimp only; split <;> split <;> rfl
@[simp] theorem State.writeRom_fault (s : State) (a : Word) (v : Byte) : (s.writeRom a v).fault = s.fault := by
  unfold State.writeRom; dsimp only; split <;> split <;> rfl
@[simp] theorem State.writeRom_skip (s : State) (a : Word) (v : Byte) : (s.writeRom a v).skip = s.skip := by
  unfold State.writeRom; dsimp only; split <;> split <;> rfl
@[simp] theorem State.writeRom_cycles (s : State) (a : Word) (v : Byte) : (s.writeRom a v).cycles = s.cycles := by
  unfold State.writeRom; dsimp only; split <;> split <;> rfl
@[simp] theorem State.writeRom_ppu (s : State) (a : Word) (v : Byte) : (s.writeRom a v).ppu = s.ppu := by
  unfold State.writeRom; dsimp only; split <;> split <;> rfl
@[simp] theorem State.writeRom_frameCycles (s : State) (a : Word) (v : Byte) : (s.writeRom a v).frameCycles = s.frameCycles := by
  unfold State.writeRom; dsimp only; split <;> split <;> rfl
@[simp] theorem State.writeRom_config (s : State) (a : Word) (v : Byte) : (s.writeRom a v).config = s.config := by
  unfold State.writeRom; dsimp only; split <;> split <;> rfl

@[simp] theorem State.writeU8_regs (s : State) (a : Word) (v : Byte) : (s.writeU8 a v).regs = s.regs := by
  unfold State.writeU8; split <;> [simp; split <;> [rfl; split <;> [rfl; split <;> [rfl; split <;> rfl]]]]
@[simp] theorem State.writeU8_sp (s : State) (a : Word) (v : Byte) : (s.writeU8 a v).sp = s.sp := by
  unfold State.writeU8; split <;> [simp; split <;> [rfl; split <;> [rfl; split <;> [rfl; split <;> rfl]]]]
@[simp] theorem State.writeU8_pc (s : State) (a : Word) (v : Byte) : (s.writeU8 a v).pc = s.pc := by
  unfold State.writeU8; split <;> [simp; split <;> [rfl; split <;> [rfl; split <;> [rfl; split <;> rfl]]]]
@[simp] theorem State.writeU8_ime (s : State) (a : Word) (v : Byte) : (s.writeU8 a v).ime = s.ime := by
  unfold State.writeU8; split <;> [simp; split <;> [rfl; split <;> [rfl; split <;> [rfl; split <;> rfl]]]]
@[simp] theorem State.writeU8_halted (s : State) (a : Word) (v : Byte) : (s.writeU8 a v).halted = s.halted := by
  unfold State.writeU8; split <;> [simp; split <;> [rfl; split <;> [rfl; split <;> [rfl; split <;> rfl]]]]
@[simp] theorem State.writeU8_fault (s : State) (a : Word) (v : Byte) : (s.writeU8 a v).fault = s.fault := by
  unfold State.writeU8; split <;> [simp; split <;> [rfl; split <;> [rfl; split <;> [rfl; split <;> rfl]]]]
@[simp] theorem State.writeU8_skip (s : State) (a : Word) (v : Byte) : (s.writeU8 a v).skip = s.skip := by
  unfold State.writeU8; split <;> [simp; split <;> [rfl; split <;> [rfl; split <;> [rfl; split <;> rfl]]]]
@[simp] theorem State.writeU8_cycles (s : State) (a : Word) (v : Byte) : (s.writeU8 a v).cycles = s.cycles := by
  unfold State.writeU8; split <;> [simp; split <;> [rfl; split <;> [rfl; split <;> [rfl; split <;> rfl]]]]
@[simp] theorem State.writeU8_ppu (s : State) (a : Word) (v : Byte) : (s.writeU8 a v).ppu = s.ppu := by
  unfold State.writeU8; split <;> [simp; split <;> [rfl; split <;> [rfl; split <;> [rfl; split <;> rfl]]]]
@[simp] theorem State.writeU8_frameCycles (s : State) (a : Word) (v : Byte) : (s.writeU8 a v).frameCycles = s.frameCycles := by
  unfold State.writeU8; split <;> [simp; split <;> [rfl; split <;> [rfl; split <;> [rfl; split <;> rfl]]]]
@[simp] theorem State.writeU8_config (s : State) (a : Word) (v : Byte) : (s.writeU8 a v).config = s.config := by
  unfold State.writeU8; split <;> [simp; split <;> [rfl; split <;> [rfl; split <;> [rfl; split <;> rfl]]]]

@[simp] theorem State.writeU16_regs (s : State) (a v : Word) : (s.writeU16 a v).regs = s.regs := by
  simp [State.writeU16]
@[simp] theorem State.writeU16_sp (s : State) (a v : Word) : (s.writeU16 a v).sp = s.sp := by simp [State.writeU16]
@[simp] theorem State.writeU16_pc (s : State) (a v : Word) : (s.writeU16 a v).pc = s.pc := by simp [State.writeU16]
@[simp] theorem State.writeU16_ime (s : State) (a v : Word) : (s.writeU16 a v).ime = s.ime := by simp [State.writeU16]
@[simp] theorem State.writeU16_halted (s : State) (a v : Word) : (s.writeU16 a v).halted = s.halted := by
  simp [State.writeU16]
@[simp] theorem State.writeU16_fault (s : State) (a v : Word) : (s.writeU16 a v).fault = s.fault := by
  simp [State.writeU16]
@[simp] theorem State.writeU16_skip (s : State) (a v : Word) : (s.writeU16 a v).skip = s.skip := by
  simp [State.writeU16]
@[simp] theorem State.writeU16_cycles (s : State) (a v : Word) : (s.writeU16 a v).cycles = s.cycles := by
  simp [State.writeU16]
@[simp] theorem State.writeU16_ppu (s : State) (a v : Word) : (s.writeU16 a v).ppu = s.ppu := by simp [State.writeU16]
@[simp] theorem State.writeU16_frameCycles (s : State) (a v : Word) : (s.writeU16 a v).frameCycles = s.frameCycles := by
  simp [State.writeU16]
@[simp] theorem State.writeU16_config (s : State) (a v : Word) : (s.writeU16 a v).config = s.config := by
  simp [State.writeU16]

@[simp] theorem State.pushByte_regs (s : State) (v : Byte) : (s.pushByte v).regs = s.regs := by simp [State.pushByte]
@[simp] theorem State.pushByte_pc (s : State) (v : Byte) : (s.pushByte v).pc = s.pc := by simp [State.pushByte]
@[simp] theorem State.pushByte_ime (s : State) (v : Byte) : (s.pushByte v).ime = s.ime := by simp [State.pushByte]
@[simp] theorem State.pushByte_halted (s : State) (v : Byte) : (s.pushByte v).halted = s.halted := by
  simp [State.pushByte]
@[simp] theorem State.pushByte_fault (s : State) (v : Byte) : (s.pushByte v).fault = s.fault := by simp [State.pushByte]
@[simp] theorem State.pushByte_skip (s : State) (v : Byte) : (s.pushByte v).skip = s.skip := by simp [State.pushByte]
@[simp] theorem State.pushByte_cycles (s : State) (v : Byte) : (s.pushByte v).cycles = s.cycles := by
  simp [State.pushByte]
@[simp] theorem State.pushByte_ppu (s : State) (v : Byte) : (s.pushByte v).ppu = s.ppu := by simp [State.pushByte]
@[simp] theorem State.pushByte_frameCycles (s : State) (v : Byte) : (s.pushByte v).frameCycles = s.frameCycles := by
  simp [State.pushByte]
@[simp] theorem State.pushByte_config (s : State) (v : Byte) : (s.pushByte v).config = s.config := by
  simp [State.pushByte]

@[simp] theorem State.push16_regs (s : State) (v : Word) : (s.push16 v).regs = s.regs := by simp [State.push16]
@[simp] theorem State.push16_pc (s : State) (v : Word) : (s.push16 v).pc = s.pc := by simp [State.push16]
@[simp] theorem State.push16_ime (s : State) (v : Word) : (s.push16 v).ime = s.ime := by simp [State.push16]
@[simp] theorem State.push16_halted (s : State) (v : Word) : (s.push16 v).halted = s.halted := by simp [State.push16]
@[simp] theorem State.push16_fault (s : State) (v : Word) : (s.push16 v).fault = s.fault := by simp [State.push16]
@[simp] theorem State.push16_skip (s : State) (v : Word) : (s.push16 v).skip = s.skip := by simp [State.push16]
@[simp] theorem State.push16_cycles (s : State) (v : Word) : (s.push16 v).cycles = s.cycles := by simp [State.push16]
@[simp] theorem State.push16_ppu (s : State) (v : Word) : (s.push16 v).ppu = s.ppu := by simp [State.push16]
@[simp] theorem State.push16_frameCycles (s : State) (v : Word) : (s.push16 v).frameCycles = s.frameCycles := by
  simp [State.push16]
@[simp] theorem State.push16_config (s : State) (v : Word) : (s.push16 v).config = s.config := by simp [State.push16]

@[simp] theorem State.addSpInto_pc (s : State) (d : Reg16) (n : Byte) : (s.addSpInto d n).pc = s.pc := by
  simp [State.addSpInto]
@[simp] theorem State.addSpInto_ime (s : State) (d : Reg16) (n : Byte) : (s.addSpInto d n).ime = s.ime := by
  simp [State.addSpInto]
@[simp] theorem State.addSpInto_halted (s : State) (d : Reg16) (n : Byte) : (s.addSpInto d n).halted = s.halted := by
  simp [State.addSpInto]
@[simp] theorem State.addSpInto_fault (s : State) (d : Reg16) (n : Byte) : (s.addSpInto d n).fault = s.fault := by
  simp [State.addSpInto]
@[simp] theorem State.addSpInto_skip (s : State) (d : Reg16) (n : Byte) : (s.addSpInto d n).skip = s.skip := by
  simp [State.addSpInto]
@[simp] theorem State.addSpInto_cycles (s : State) (d : Reg16) (n : Byte) : (s.addSpInto d n).cycles = s.cycles := by
  simp [State.addSpInto]
@[simp] theorem State.addSpInto_bus (s : State) (d : Reg16) (n : Byte) : (s.addSpInto d n).bus = s.bus := by
  simp [State.addSpInto]
@[simp] theorem State.addSpInto_ppu (s : State) (d : Reg16) (n : Byte) : (s.addSpInto d n).ppu = s.ppu := by
  simp [State.addSpInto]
@[simp] theorem State.addSpInto_frameCycles (s : State) (d : Reg16) (n : Byte) : (s.addSpInto d n).frameCycles = s.frameCycles := by
  simp [State.addSpInto]
@[simp] theorem State.addSpInto_config (s : State) (d : Reg16) (n : Byte) : (s.addSpInto d n).config = s.config := by
  simp [State.addSpInto]

@[simp] theorem State.returnInterrupt_regs (s : State) : (s.returnInterrupt).regs = s.regs := rfl
@[simp] theorem State.returnInterrupt_halted (s : State) : (s.returnInterrupt).halted = s.halted := rfl
@[simp] theorem State.returnInterrupt_fault (s : State) : (s.returnInterrupt).fault = s.fault := rfl
@[simp] theorem State.returnInterrupt_cycles (s : State) : (s.returnInterrupt).cycles = s.cycles := rfl
@[simp] theorem State.returnInterrupt_bus (s : State) : (s.returnInterrupt).bus = s.bus := rfl
@[simp] theorem State.returnInterrupt_ppu (s : State) : (s.returnInterrupt).ppu = s.ppu := rfl
@[simp] theorem State.returnInterrupt_frameCycles (s : State) : (s.returnInterrupt).frameCycles = s.frameCycles := rfl
@[simp] theorem State.returnInterrupt_config (s : State) : (s.returnInterrupt).config = s.config := rfl

@[simp] theorem State.popPc_regs (s : State) : (s.popPc).regs = s.regs := rfl
@[simp] theorem State.popPc_ime (s : State) : (s.popPc).ime = s.ime := rfl
@[simp] theorem State.popPc_halted (s : State) : (s.popPc).halted = s.halted := rfl
@[simp] theorem State.popPc_fault (s : State) : (s.popPc).fault = s.fault := rfl
@[simp] theorem State.popPc_cycles (s : State) : (s.popPc).cycles = s.cycles := rfl
@[simp] theorem State.popPc_bus (s : State) : (s.popPc).bus = s.bus := rfl
@[simp] theorem State.popPc_ppu (s : State) : (s.popPc).ppu = s.ppu := rfl
@[simp] theorem State.popPc_frameCycles (s : State) : (s.popPc).frameCycles = s.frameCycles := rfl
@[simp] theorem State.popPc_config (s : State) : (s.popPc).config = s.config := rfl

@[simp] theorem State.fetcherStep_regs (s : State) : (s.fetcherStep).regs = s.regs := by
  unfold State.fetcherStep; split <;> rfl
@[simp] theorem State.fetcherStep_sp (s : State) : (s.fetcherStep).sp = s.sp := by
  unfold State.fetcherStep; split <;> rfl
@[simp] theorem State.fetcherStep_pc (s : State) : (s.fetcherStep).pc = s.pc := by
  unfold State.fetcherStep; split <;> rfl
@[simp] theorem State.fetcherStep_ime (s : State) : (s.fetcherStep).ime = s.ime := by
  unfold State.fetcherStep; split <;> rfl
@[simp] theorem State.fetcherStep_halted (s : State) : (s.fetcherStep).halted = s.halted := by
  unfold State.fetcherStep; split <;> rfl
@[simp] theorem State.fetcherStep_fault (s : State) : (s.fetcherStep).fault = s.fault := by
  unfold State.fetcherStep; split <;> rfl
@[simp] theorem State.fetcherStep_skip (s : State) : (s.fetcherStep).skip = s.skip := by
  unfold State.fetcherStep; split <;> rfl
@[simp] theorem State.fetcherStep_cycles (s : State) : (s.fetcherStep).cycles = s.cycles := by
  unfold State.fetcherStep; split <;> rfl
@[simp] theorem State.fetcherStep_bus (s : State) : (s.fetcherStep).bus = s.bus := by
  unfold State.fetcherStep; split <;> rfl
@[simp] theorem State.fetcherStep_frameCycles (s : State) : (s.fetcherStep).frameCycles = s.frameCycles := by
  unfold State.fetcherStep; split <;> rfl
@[simp] theorem State.fetcherStep_config (s : State) : (s.fetcherStep).config = s.config := by
  unfold State.fetcherStep; split <;> rfl

@[simp] theorem State.pixelStep_regs (s : State) : (s.pixelStep).regs = s.regs := by
  unfold State.pixelStep; split <;> (try split) <;> rfl
@[simp] theorem State.pixelStep_sp (s : State) : (s.pixelStep).sp = s.sp := by
  unfold State.pixelStep; split <;> (try split) <;> rfl
@[simp] theorem State.pixelStep_pc (s : State) : (s.pixelStep).pc = s.pc := by
  unfold State.pixelStep; split <;> (try split) <;> rfl
@[simp] theorem State.pixelStep_ime (s : State) : (s.pixelStep).ime = s.ime := by
  unfold State.pixelStep; split <;> (try split) <;> rfl
@[simp] theorem State.pixelStep_halted (s : State) : (s.pixelStep).halted = s.halted := by
  unfold State.pixelStep; split <;> (try split) <;> rfl
@[simp] theorem State.pixelStep_fault (s : State) : (s.pixelStep).fault = s.fault := by
  unfold State.pixelStep; split <;> (try split) <;> rfl
@[simp] theorem State.pixelStep_skip (s : State) : (s.pixelStep).skip = s.skip := by
  unfold State.pixelStep; split <;> (try split) <;> rfl
@[simp] theorem State.pixelStep_cycles (s : State) : (s.pixelStep).cycles = s.cycles := by
  unfold State.pixelStep; split <;> (try split) <;> rfl
@[simp] theorem State.pixelStep_bus (s : State) : (s.pixelStep).bus = s.bus := by
  unfold State.pixelStep; split <;> (try split) <;> rfl
@[simp] theorem State.pixelStep_frameCycles (s : State) : (s.pixelStep).frameCycles = s.frameCycles := by
  unfold State.pixelStep; split <;> (try split) <;> rfl
@[simp] theorem State.pixelStep_config (s : State) : (s.pixelStep).config = s.config := by
  unfold State.pixelStep; split <;> (try split) <;> rfl

@[simp] theorem State.enterOamScan_regs (s : State) : (s.enterOamScan).regs = s.regs := rfl
@[simp] theorem State.enterOamScan_sp (s : State) : (s.enterOamScan).sp = s.sp := rfl
@[simp] theorem State.enterOamScan_pc (s : State) : (s.enterOamScan).pc = s.pc := rfl
@[simp] theorem State.enterOamScan_ime (s : State) : (s.enterOamScan).ime = s.ime := rfl
@[simp] theorem State.enterOamScan_halted (s : State) : (s.enterOamScan).halted = s.halted := rfl
@[simp] theorem State.enterOamScan_fault (s : State) : (s.enterOamScan).fault = s.fault := rfl
@[simp] theorem State.enterOamScan_skip (s : State) : (s.enterOamScan).skip = s.skip := rfl
@[simp] theorem State.enterOamScan_cycles (s : State) : (s.enterOamScan).cycles = s.cycles := rfl
@[simp] theorem State.enterOamScan_frameCycles (s : State) : (s.enterOamScan).frameCycles = s.frameCycles := rfl
@[simp] theorem State.enterOamScan_config (s : State) : (s.enterOamScan).config = s.config := rfl

@[simp] theorem State.enterLine_regs (s : State) : (s.enterLine).regs = s.regs := by
  unfold State.enterLine; split <;> simp
@[simp] theorem State.enterLine_sp (s : State) : (s.enterLine).sp = s.sp := by unfold State.enterLine; split <;> simp
@[simp] theorem State.enterLine_pc (s : State) : (s.enterLine).pc = s.pc := by unfold State.enterLine; split <;> simp
@[simp] theorem State.enterLine_ime (s : State) : (s.enterLine).ime = s.ime := by unfold State.enterLine; split <;> simp
@[simp] theorem State.enterLine_halted (s : State) : (s.enterLine).halted = s.halted := by
  unfold State.enterLine; split <;> simp
@[simp] theorem State.enterLine_fault (s : State) : (s.enterLine).fault = s.fault := by
  unfold State.enterLine; split <;> simp
@[simp] theorem State.enterLine_skip (s : State) : (s.enterLine).skip = s.skip := by
  unfold State.enterLine; split <;> simp
@[simp] theorem State.enterLine_cycles (s : State) : (s.enterLine).cycles = s.cycles := by
  unfold State.enterLine; split <;> simp
@[simp] theorem State.enterLine_frameCycles (s : State) : (s.enterLine).frameCycles = s.frameCycles := by
  unfold State.enterLine; split <;> simp
@[simp] theorem State.enterLine_config (s : State) : (s.enterLine).config = s.config := by
  unfold State.enterLine; split <;> simp

@[simp] theorem State.wrapLy_regs (s : State) : (s.wrapLy).regs = s.regs := by unfold State.wrapLy; split <;> simp
@[simp] theorem State.wrapLy_sp (s : State) : (s.wrapLy).sp = s.sp := by unfold State.wrapLy; split <;> simp
@[simp] theorem State.wrapLy_pc (s : State) : (s.wrapLy).pc = s.pc := by unfold State.wrapLy; split <;> simp
@[simp] theorem State.wrapLy_ime (s : State) : (s.wrapLy).ime = s.ime := by unfold State.wrapLy; split <;> simp
@[simp] theorem State.wrapLy_halted (s : State) : (s.wrapLy).halted = s.halted := by unfold State.wrapLy; split <;> simp
@[simp] theorem State.wrapLy_fault (s : State) : (s.wrapLy).fault = s.fault := by unfold State.wrapLy; split <;> simp
@[simp] theorem State.wrapLy_skip (s : State) : (s.wrapLy).skip = s.skip := by unfold State.wrapLy; split <;> simp
@[simp] theorem State.wrapLy_cycles (s : State) : (s.wrapLy).cycles = s.cycles := by unfold State.wrapLy; split <;> simp
@[simp] theorem State.wrapLy_frameCycles (s : State) : (s.wrapLy).frameCycles = s.frameCycles := by
  unfold State.wrapLy; split <;> simp
@[simp] theorem State.wrapLy_config (s : State) : (s.wrapLy).config = s.config := by unfold State.wrapLy; split <;> simp

@[simp] theorem State.nextLy_regs (s : State) : (s.nextLy).regs = s.regs := by simp [State.nextLy]
@[simp] theorem State.nextLy_sp (s : State) : (s.nextLy).sp = s.sp := by simp [State.nextLy]
@[simp] theorem State.nextLy_pc (s : State) : (s.nextLy).pc = s.pc := by simp [State.nextLy]
@[simp] theorem State.nextLy_ime (s : State) : (s.nextLy).ime = s.ime := by simp [State.nextLy]
@[simp] theorem State.nextLy_halted (s : State) : (s.nextLy).halted = s.halted := by simp [State.nextLy]
@[simp] theorem State.nextLy_fault (s : State) : (s.nextLy).fault = s.fault := by simp [State.nextLy]
@[simp] theorem State.nextLy_skip (s : State) : (s.nextLy).skip = s.skip := by simp [State.nextLy]
@[simp] theorem State.nextLy_cycles (s : State) : (s.nextLy).cycles = s.cycles := by simp [State.nextLy]
@[simp] theorem State.nextLy_ppu (s : State) : (s.nextLy).ppu = s.ppu := by simp [State.nextLy]
@[simp] theorem State.nextLy_frameCycles (s : State) : (s.nextLy).frameCycles = s.frameCycles := by simp [State.nextLy]
@[simp] theorem State.nextLy_config (s : State) : (s.nextLy).config = s.config := by simp [State.nextLy]

@[simp] theorem State.resetLine_regs (s : State) : (s.resetLine).regs = s.regs := rfl
@[simp] theorem State.resetLine_sp (s : State) : (s.resetLine).sp = s.sp := rfl
@[simp] theorem State.resetLine_pc (s : State) : (s.resetLine).pc = s.pc := rfl
@[simp] theorem State.resetLine_ime (s : State) : (s.resetLine).ime = s.ime := rfl
@[simp] theorem State.resetLine_halted (s : State) : (s.resetLine).halted = s.halted := rfl
@[simp] theorem State.resetLine_fault (s : State) : (s.resetLine).fault = s.fault := rfl
@[simp] theorem State.resetLine_skip (s : State) : (s.resetLine).skip = s.skip := rfl
@[simp] theorem State.resetLine_cycles (s : State) : (s.resetLine).cycles = s.cycles := rfl
@[simp] theorem State.resetLine_bus (s : State) : (s.resetLine).bus = s.bus := rfl
@[simp] theorem State.resetLine_frameCycles (s : State) : (s.resetLine).frameCycles = s.frameCycles := rfl
@[simp] theorem State.resetLine_config (s : State) : (s.resetLine).config = s.config := rfl

@[simp] theorem State.zeroLineCycles_regs (s : State) : (s.zeroLineCycles).regs = s.regs := rfl
@[simp] theorem State.zeroLineCycles_sp (s : State) : (s.zeroLineCycles).sp = s.sp := rfl
@[simp] theorem State.zeroLineCycles_pc (s : State) : (s.zeroLineCycles).pc = s.pc := rfl
@[simp] theorem State.zeroLineCycles_ime (s : State) : (s.zeroLineCycles).ime = s.ime := rfl
@[simp] theorem State.zeroLineCycles_halted (s : State) : (s.zeroLineCycles).halted = s.halted := rfl
@[simp] theorem State.zeroLineCycles_fault (s : State) : (s.zeroLineCycles).fault = s.fault := rfl
@[simp] theorem State.zeroLineCycles_skip (s : State) : (s.zeroLineCycles).skip = s.skip := rfl
@[simp] theorem State.zeroLineCycles_cycles (s : State) : (s.zeroLineCycles).cycles = s.cycles := rfl
@[simp] theorem State.zeroLineCycles_bus (s : State) : (s.zeroLineCycles).bus = s.bus := rfl
@[simp] theorem State.zeroLineCycles_frameCycles (s : State) : (s.zeroLineCycles).frameCycles = s.frameCycles := rfl
@[simp] theorem State.zeroLineCycles_config (s : State) : (s.zeroLineCycles).config = s.config := rfl

@[simp] theorem State.flipDiv_regs (s : State) : (s.flipDiv).regs = s.regs := rfl
@[simp] theorem State.flipDiv_sp (s : State) : (s.flipDiv).sp = s.sp := rfl
@[simp] theorem State.flipDiv_pc (s : State) : (s.flipDiv).pc = s.pc := rfl
@[simp] theorem State.flipDiv_ime (s : State) : (s.flipDiv).ime = s.ime := rfl
@[simp] theorem State.flipDiv_halted (s : State) : (s.flipDiv).halted = s.halted := rfl
@[simp] theorem State.flipDiv_fault (s : State) : (s.flipDiv).fault = s.fault := rfl
@[simp] theorem State.flipDiv_skip (s : State) : (s.flipDiv).skip = s.skip := rfl
@[simp] theorem State.flipDiv_cycles (s : State) : (s.flipDiv).cycles = s.cycles := rfl
@[simp] theorem State.flipDiv_bus (s : State) : (s.flipDiv).bus = s.bus := rfl
@[simp] theorem State.flipDiv_frameCycles (s : State) : (s.flipDiv).frameCycles = s.frameCycles := rfl
@[simp] theorem State.flipDiv_config (s : State) : (s.flipDiv).config = s.config := rfl

@[simp] theorem State.countCycle_regs (s : State) : (s.countCycle).regs = s.regs := rfl
@[simp] theorem State.countCycle_sp (s : State) : (s.countCycle).sp = s.sp := rfl
@[simp] theorem State.countCycle_pc (s : State) : (s.countCycle).pc = s.pc := rfl
@[simp] theorem State.countCycle_ime (s : State) : (s.countCycle).ime = s.ime := rfl
@[simp] theorem State.countCycle_halted (s : State) : (s.countCycle).halted = s.halted := rfl
@[simp] theorem State.countCycle_fault (s : State) : (s.countCycle).fault = s.fault := rfl
@[simp] theorem State.countCycle_skip (s : State) : (s.countCycle).skip = s.skip := rfl
@[simp] theorem State.countCycle_cycles (s : State) : (s.countCycle).cycles = s.cycles := rfl
@[simp] theorem State.countCycle_bus (s : State) : (s.countCycle).bus = s.bus := rfl
@[simp] theorem State.countCycle_frameCycles (s : State) : (s.countCycle).frameCycles = s.frameCycles := rfl
@[simp] theorem State.countCycle_config (s : State) : (s.countCycle).config = s.config := rfl

@[simp] theorem State.endOfLine_regs (s : State) : (s.endOfLine).regs = s.regs := by simp [State.endOfLine]
@[simp] theorem State.endOfLine_sp (s : State) : (s.endOfLine).sp = s.sp := by simp [State.endOfLine]
@[simp] theorem State.endOfLine_pc (s : State) : (s.endOfLine).pc = s.pc := by simp [State.endOfLine]
@[simp] theorem State.endOfLine_ime (s : State) : (s.endOfLine).ime = s.ime := by simp [State.endOfLine]
@[simp] theorem State.endOfLine_halted (s : State) : (s.endOfLine).halted = s.halted := by simp [State.endOfLine]
@[simp] theorem State.endOfLine_fault (s : State) : (s.endOfLine).fault = s.fault := by simp [State.endOfLine]
@[simp] theorem State.endOfLine_skip (s : State) : (s.endOfLine).skip = s.skip := by simp [State.endOfLine]
@[simp] theorem State.endOfLine_cycles (s : State) : (s.endOfLine).cycles = s.cycles := by simp [State.endOfLine]
@[simp] theorem State.endOfLine_frameCycles (s : State) : (s.endOfLine).frameCycles = s.frameCycles := by
  simp [State.endOfLine]
@[simp] theorem State.endOfLine_config (s : State) : (s.endOfLine).config = s.config := by simp [State.endOfLine]

@[simp] theorem State.vBlankLineEnd_regs (s : State) : (s.vBlankLineEnd).regs = s.regs := by simp [State.vBlankLineEnd]
@[simp] theorem State.vBlankLineEnd_sp (s : State) : (s.vBlankLineEnd).sp = s.sp := by simp [State.vBlankLineEnd]
@[simp] theorem State.vBlankLineEnd_pc (s : State) : (s.vBlankLineEnd).pc = s.pc := by simp [State.vBlankLineEnd]
@[simp] theorem State.vBlankLineEnd_ime (s : State) : (s.vBlankLineEnd).ime = s.ime := by simp [State.vBlankLineEnd]
@[simp] theorem State.vBlankLineEnd_halted (s : State) : (s.vBlankLineEnd).halted = s.halted := by
  simp [State.vBlankLineEnd]
@[simp] theorem State.vBlankLineEnd_fault (s : State) : (s.vBlankLineEnd).fault = s.fault := by
  simp [State.vBlankLineEnd]
@[simp] theorem State.vBlankLineEnd_skip (s : State) : (s.vBlankLineEnd).skip = s.skip := by simp [State.vBlankLineEnd]
@[simp] theorem State.vBlankLineEnd_cycles (s : State) : (s.vBlankLineEnd).cycles = s.cycles := by
  simp [State.vBlankLineEnd]
@[simp] theorem State.vBlankLineEnd_frameCycles (s : State) : (s.vBlankLineEnd).frameCycles = s.frameCycles := by
  simp [State.vBlankLineEnd]
@[simp] theorem State.vBlankLineEnd_config (s : State) : (s.vBlankLineEnd).config = s.config := by
  simp [State.vBlankLineEnd]

@[simp] theorem State.fetchIfDue_regs (s : State) : (s.fetchIfDue).regs = s.regs := by
  unfold State.fetchIfDue; split <;> simp
@[simp] theorem State.fetchIfDue_sp (s : State) : (s.fetchIfDue).sp = s.sp := by unfold State.fetchIfDue; split <;> simp
@[simp] theorem State.fetchIfDue_pc (s : State) : (s.fetchIfDue).pc = s.pc := by unfold State.fetchIfDue; split <;> simp
@[simp] theorem State.fetchIfDue_ime (s : State) : (s.fetchIfDue).ime = s.ime := by
  unfold State.fetchIfDue; split <;> simp
@[simp] theorem State.fetchIfDue_halted (s : State) : (s.fetchIfDue).halted = s.halted := by
  unfold State.fetchIfDue; split <;> simp
@[simp] theorem State.fetchIfDue_fault (s : State) : (s.fetchIfDue).fault = s.fault := by
  unfold State.fetchIfDue; split <;> simp
@[simp] theorem State.fetchIfDue_skip (s : State) : (s.fetchIfDue).skip = s.skip := by
  unfold State.fetchIfDue; split <;> simp
@[simp] theorem State.fetchIfDue_cycles (s : State) : (s.fetchIfDue).cycles = s.cycles := by
  unfold State.fetchIfDue; split <;> simp
@[simp] theorem State.fetchIfDue_bus (s : State) : (s.fetchIfDue).bus = s.bus := by
  unfold State.fetchIfDue; split <;> simp
@[simp] theorem State.fetchIfDue_frameCycles (s : State) : (s.fetchIfDue).frameCycles = s.frameCycles := by
  unfold State.fetchIfDue; split <;> simp
@[simp] theorem State.fetchIfDue_config (s : State) : (s.fetchIfDue).config = s.config := by
  unfold State.fetchIfDue; split <;> simp

@[simp] theorem State.endDrawing_regs (s : State) : (s.endDrawing).regs = s.regs := by
  unfold State.endDrawing; split <;> simp
@[simp] theorem State.endDrawing_sp (s : State) : (s.endDrawing).sp = s.sp := by unfold State.endDrawing; split <;> simp
@[simp] theorem State.endDrawing_pc (s : State) : (s.endDrawing).pc = s.pc := by unfold State.endDrawing; split <;> simp
@[simp] theorem State.endDrawing_ime (s : State) : (s.endDrawing).ime = s.ime := by
  unfold State.endDrawing; split <;> simp
@[simp] theorem State.endDrawing_halted (s : State) : (s.endDrawing).halted = s.halted := by
  unfold State.endDrawing; split <;> simp
@[simp] theorem State.endDrawing_fault (s : State) : (s.endDrawing).fault = s.fault := by
  unfold State.endDrawing; split <;> simp
@[simp] theorem State.endDrawing_skip (s : State) : (s.endDrawing).skip = s.skip := by
  unfold State.endDrawing; split <;> simp
@[simp] theorem State.endDrawing_cycles (s : State) : (s.endDrawing).cycles = s.cycles := by
  unfold State.endDrawing; split <;> simp
@[simp] theorem State.endDrawing_frameCycles (s : State) : (s.endDrawing).frameCycles = s.frameCycles := by
  unfold State.endDrawing; split <;> simp
@[simp] theorem State.endDrawing_config (s : State) : (s.endDrawing).config = s.config := by
  unfold State.endDrawing; split <;> simp

@[simp] theorem State.drawTick_regs (s : State) : (s.drawTick).regs = s.regs := by simp [State.drawTick]
@[simp] theorem State.drawTick_sp (s : State) : (s.drawTick).sp = s.sp := by simp [State.drawTick]
@[simp] theorem State.drawTick_pc (s : State) : (s.drawTick).pc = s.pc := by simp [State.drawTick]
@[simp] theorem State.drawTick_ime (s : State) : (s.drawTick).ime = s.ime := by simp [State.drawTick]
@[simp] theorem State.drawTick_halted (s : State) : (s.drawTick).halted = s.halted := by simp [State.drawTick]
@[simp] theorem State.drawTick_fault (s : State) : (s.drawTick).fault = s.fault := by simp [State.drawTick]
@[simp] theorem State.drawTick_skip (s : State) : (s.drawTick).skip = s.skip := by simp [State.drawTick]
@[simp] theorem State.drawTick_cycles (s : State) : (s.drawTick).cycles = s.cycles := by simp [State.drawTick]
@[simp] theorem State.drawTick_frameCycles (s : State) : (s.drawTick).frameCycles = s.frameCycles := by
  simp [State.drawTick]
@[simp] theorem State.drawTick_config (s : State) : (s.drawTick).config = s.config := by simp [State.drawTick]

@[simp] theorem State.modeTick_regs (s : State) : (s.modeTick).regs = s.regs := by
  unfold State.modeTick; split <;> (try split) <;> simp
@[simp] theorem State.modeTick_sp (s : State) : (s.modeTick).sp = s.sp := by
  unfold State.modeTick; split <;> (try split) <;> simp
@[simp] theorem State.modeTick_pc (s : State) : (s.modeTick).pc = s.pc := by
  unfold State.modeTick; split <;> (try split) <;> simp
@[simp] theorem State.modeTick_ime (s : State) : (s.modeTick).ime = s.ime := by
  unfold State.modeTick; split <;> (try split) <;> simp
@[simp] theorem State.modeTick_halted (s : State) : (s.modeTick).halted = s.halted := by
  unfold State.modeTick; split <;> (try split) <;> simp
@[simp] theorem State.modeTick_fault (s : State) : (s.modeTick).fault = s.fault := by
  unfold State.modeTick; split <;> (try split) <;> simp
@[simp] theorem State.modeTick_skip (s : State) : (s.modeTick).skip = s.skip := by
  unfold State.modeTick; split <;> (try split) <;> simp
@[simp] theorem State.modeTick_cycles (s : State) : (s.modeTick).cycles = s.cycles := by
  unfold State.modeTick; split <;> (try split) <;> simp
@[simp] theorem State.modeTick_frameCycles (s : State) : (s.modeTick).frameCycles = s.frameCycles := by
  unfold State.modeTick; split <;> (try split) <;> simp
@[simp] theorem State.modeTick_config (s : State) : (s.modeTick).config = s.config := by
  unfold State.modeTick; split <;> (try split) <;> simp

@[simp] theorem State.ppuTick_regs (s : State) : (s.ppuTick).regs = s.regs := by unfold State.ppuTick; split <;> simp
@[simp] theorem State.ppuTick_sp (s : State) : (s.ppuTick).sp = s.sp := by unfold State.ppuTick; split <;> simp
@[simp] theorem State.ppuTick_pc (s : State) : (s.ppuTick).pc = s.pc := by unfold State.ppuTick; split <;> simp
@[simp] theorem State.ppuTick_ime (s : State) : (s.ppuTick).ime = s.ime := by unfold State.ppuTick; split <;> simp
@[simp] theorem State.ppuTick_halted (s : State) : (s.ppuTick).halted = s.halted := by
  unfold State.ppuTick; split <;> simp
@[simp] theorem State.ppuTick_fault (s : State) : (s.ppuTick).fault = s.fault := by unfold State.ppuTick; split <;> simp
@[simp] theorem State.ppuTick_skip (s : State) : (s.ppuTick).skip = s.skip := by unfold State.ppuTick; split <;> simp
@[simp] theorem State.ppuTick_cycles (s : State) : (s.ppuTick).cycles = s.cycles := by
  unfold State.ppuTick; split <;> simp
@[simp] theorem State.ppuTick_frameCycles (s : State) : (s.ppuTick).frameCycles = s.frameCycles := by
  unfold State.ppuTick; split <;> simp
@[simp] theorem State.ppuTick_config (s : State) : (s.ppuTick).config = s.config := by
  unfold State.ppuTick; split <;> simp

@[simp] theorem State.advance_pc (s : State) (n : Nat) :
    (s.advance n).pc = if s.skip then s.pc else s.pc + BitVec.ofNat 16 n := by unfold State.advance; split <;> rfl
@[simp] theorem State.advance_skip (s : State) (n : Nat) : (s.advance n).skip = false := by
  unfold State.advance; split <;> rfl
@[simp] theorem State.pushByte_sp (s : State) (v : Byte) : (s.pushByte v).sp = s.sp - 1 := by simp [State.pushByte]
@[simp] theorem State.push16_sp (s : State) (v : Word) : (s.push16 v).sp = s.sp - 1 - 1 := by simp [State.push16]

end Sys2Proof.Machine
end

