-- ==== Sys2Proof/Laws/Bus.lean ====
section
/-! SUPPORT. The memory bus: where an address reads from, what a byte put there does to every other read, and that
every bus operation keeps the storage canonical. -/

namespace Sys2Proof.Machine

/-- A slot whose index lies inside its region. -/
def Slot.inRange (banks : Nat) (x : Slot) : Prop :=
  match x with
  | .bootRom i => i < Config.bootRomSize
  | .rom i => i < banks * Config.bankSize
  | .vram i => i < Config.ramSize
  | .eram i => i < Config.ramSize
  | .wram i => i < Config.ramSize
  | .oam i => i < Config.oamSize
  | .gap => True
  | .div => True
  | .io i => i < Config.ioSize
  | .hram i => i < Config.hramSize
  | .ie => True

theorem State.effBank_lt {s : State} (h : s.config.valid) : s.effBank < s.config.romBankCount :=
  Nat.mod_lt _ h
/-- A property of both branches is one of the choice; on a long chain of conditions this is cheaper than `split`. -/
theorem ite_of {α : Type} (P : α → Prop) {c : Prop} [Decidable c] {a b : α} (h1 : c → P a) (h2 : ¬c → P b) :
    P (if c then a else b) := by
  by_cases h : c
  · rw [if_pos h]; exact h1 h
  · rw [if_neg h]; exact h2 h

/-- A case split over the regions of rule R46, with the bounds of each. -/
theorem State.slot_cases (s : State) (a : Word) (P : Slot → Prop)
    (boot : s.bus.bootRomMapped = true → a.toNat ≤ 0x00FF → P (.bootRom a.toNat))
    (rom0 : ¬(s.bus.bootRomMapped = true ∧ a.toNat ≤ 0x00FF) → a.toNat ≤ 0x3FFF → P (.rom a.toNat))
    (rom1 : 0x4000 ≤ a.toNat → a.toNat ≤ 0x7FFF → P (.rom (s.effBank * Config.bankSize + (a.toNat - 0x4000))))
    (vram : 0x8000 ≤ a.toNat → a.toNat ≤ 0x9FFF → P (.vram (a.toNat - 0x8000)))
    (eram : 0xA000 ≤ a.toNat → a.toNat ≤ 0xBFFF → P (.eram (a.toNat - 0xA000)))
    (wram : 0xC000 ≤ a.toNat → a.toNat ≤ 0xDFFF → P (.wram (a.toNat - 0xC000)))
    (echo : 0xE000 ≤ a.toNat → a.toNat ≤ 0xFDFF → P (.wram (a.toNat - 0xE000)))
    (oam : 0xFE00 ≤ a.toNat → a.toNat ≤ 0xFE9F → P (.oam (a.toNat - 0xFE00)))
    (gap : 0xFEA0 ≤ a.toNat → a.toNat ≤ 0xFEFF → P .gap)
    (div : a.toNat = 0xFF04 → P .div)
    (io : 0xFF00 ≤ a.toNat → a.toNat ≤ 0xFF7F → a.toNat ≠ 0xFF04 → P (.io (a.toNat - 0xFF00)))
    (hram : 0xFF80 ≤ a.toNat → a.toNat ≤ 0xFFFE → P (.hram (a.toNat - 0xFF80)))
    (ie : a.toNat = 0xFFFF → P .ie) : P (s.slot a) := by
  have ha := a.isLt
  unfold State.slot
  exact ite_of P (fun c => boot c.1 c.2) fun c0 => ite_of P (fun c => rom0 c0 c) fun c1 =>
    ite_of P (fun c => rom1 (by omega) c) fun c2 => ite_of P (fun c => vram (by omega) c) fun c3 =>
    ite_of P (fun c => eram (by omega) c) fun c4 => ite_of P (fun c => wram (by omega) c) fun c5 =>
    ite_of P (fun c => echo (by omega) c) fun c6 => ite_of P (fun c => oam (by omega) c) fun c7 =>
    ite_of P (fun c => gap (by omega) c) fun c8 => ite_of P (fun c => div c) fun c9 =>
    ite_of P (fun c => io (by omega) c c9) fun c10 => ite_of P (fun c => hram (by omega) c) fun c11 =>
    ie (by omega)

/-- Every address decodes to a slot inside its region (rules R46, R58). -/
theorem State.slot_inRange {s : State} (h : s.config.valid) (a : Word) : (s.slot a).inRange s.config.romBankCount := by
  have hv : 1 ≤ s.config.romBankCount := h
  have he := State.effBank_lt h
  have hb : s.effBank * Config.bankSize + Config.bankSize ≤ s.config.romBankCount * Config.bankSize := by
    have := Nat.mul_le_mul_right Config.bankSize (Nat.succ_le_of_lt he)
    rwa [Nat.succ_mul] at this
  have hb' : Config.bankSize ≤ s.config.romBankCount * Config.bankSize := Nat.le_mul_of_pos_left _ hv
  apply State.slot_cases <;> intros <;> simp only [Slot.inRange, Config.bootRomSize, Config.bankSize, Config.ramSize,
    Config.oamSize, Config.ioSize, Config.hramSize] at hb hb' ⊢ <;> omega

/-- What an address reads from depends on the overlay, the bank register and the configuration alone. -/
theorem State.slot_congr {s t : State} (h1 : t.bus.bootRomMapped = s.bus.bootRomMapped)
    (h2 : t.bus.romBank = s.bus.romBank) (h3 : t.config = s.config) (a : Word) : t.slot a = s.slot a := by
  unfold State.slot State.effBank; rw [h1, h2, h3]

theorem State.slot_of_bus {s t : State} (h1 : t.bus = s.bus) (h2 : t.config = s.config) (a : Word) :
    t.slot a = s.slot a :=
  State.slot_congr (by rw [h1]) (by rw [h1]) h2 a

/-- Reading depends on the bus and the configuration alone. -/
theorem State.readU8_of_bus {s t : State} (h1 : t.bus = s.bus) (h2 : t.config = s.config) (a : Word) :
    t.readU8 a = s.readU8 a := by
  rw [State.readU8, State.slot_of_bus h1 h2, h1]; rfl

theorem hiByte_toNat (w : Word) : (hiByte w).toNat = w.toNat / 256 := by
  simp [hiByte, BitVec.extractLsb'_toNat, Nat.shiftRight_eq_div_pow]; omega
theorem loByte_toNat (w : Word) : (loByte w).toNat = w.toNat % 256 := by
  simp [loByte, BitVec.extractLsb'_toNat]
theorem wordOf_toNat (h l : Byte) : (wordOf h l).toNat = 256 * h.toNat + l.toNat := by
  simp only [wordOf, BitVec.toNat_append, Nat.shiftLeft_eq]
  rw [← Nat.shiftLeft_eq, ← Nat.shiftLeft_add_eq_or_of_lt l.isLt, Nat.shiftLeft_eq]; omega
theorem hiByte_wordOf (h l : Byte) : hiByte (wordOf h l) = h := by
  apply BitVec.eq_of_toNat_eq; have := l.isLt; rw [hiByte_toNat, wordOf_toNat]; omega
theorem loByte_wordOf (h l : Byte) : loByte (wordOf h l) = l := by
  apply BitVec.eq_of_toNat_eq; have := l.isLt; rw [loByte_toNat, wordOf_toNat]; omega
theorem wordOf_hi_lo (w : Word) : wordOf (hiByte w) (loByte w) = w := by
  apply BitVec.eq_of_toNat_eq; rw [wordOf_toNat, hiByte_toNat, loByte_toNat]; omega

/-- A byte put into a slot reads back there, the gap apart, and nowhere else. -/
theorem Bus.Sound.readSlot_pokeSlot {b : Bus} {banks : Nat} (h : b.Sound banks) (x y : Slot) (v : Byte) :
    (b.pokeSlot x v).readSlot y = if y = x ∧ x ≠ .gap then v else b.readSlot y := by
  cases x <;> cases y <;>
    simp [Bus.pokeSlot, Bus.readSlot, Memory.get_set h.rom, Memory.get_set h.bootRom, Memory.get_set h.vram,
      Memory.get_set h.eram, Memory.get_set h.wram, Memory.get_set h.oam, Memory.get_set h.io, Memory.get_set h.hram,
      hiByte_wordOf]

/-- Putting a byte into a slot keeps the storage canonical. -/
theorem Bus.Sound.pokeSlot {b : Bus} {banks : Nat} (h : b.Sound banks) {x : Slot} (hx : x.inRange banks) (v : Byte) :
    (b.pokeSlot x v).Sound banks := by
  cases x <;> simp only [Slot.inRange] at hx <;> obtain ⟨h1, h2, h3, h4, h5, h6, h7, h8, h9⟩ := h <;>
    first
    | exact ⟨Memory.wf_set h1 hx, h2, h3, h4, h5, h6, h7, h8, h9⟩
    | exact ⟨h1, Memory.wf_set h2 hx, h3, h4, h5, h6, h7, h8, h9⟩
    | exact ⟨h1, h2, Memory.wf_set h3 hx, h4, h5, h6, h7, h8, h9⟩
    | exact ⟨h1, h2, h3, Memory.wf_set h4 hx, h5, h6, h7, h8, h9⟩
    | exact ⟨h1, h2, h3, h4, Memory.wf_set h5 hx, h6, h7, h8, h9⟩
    | exact ⟨h1, h2, h3, h4, h5, Memory.wf_set h6 hx, h7, h8, h9⟩
    | exact ⟨h1, h2, h3, h4, h5, h6, Memory.wf_set h7 hx, h8, h9⟩
    | exact ⟨h1, h2, h3, h4, h5, h6, h7, Memory.wf_set h8 hx, h9⟩
    | exact ⟨h1, h2, h3, h4, h5, h6, h7, h8, h9⟩

/-- Writing one byte of the I/O storage keeps the storage canonical. -/
theorem Bus.Sound.setIo {b : Bus} {banks : Nat} (h : b.Sound banks) {i : Nat} (hi : i < Config.ioSize) (v : Byte) :
    ({ b with io := b.io.set blankByte i v } : Bus).Sound banks :=
  h.pokeSlot (x := .io i) hi v

theorem bankOf_ne_zero (v : Byte) : bankOf v ≠ 0#5 := by
  unfold bankOf; dsimp only; split
  · decide
  · assumption

theorem Bus.Sound.setBank {b : Bus} {banks : Nat} (h : b.Sound banks) (v : Byte) :
    ({ b with romBank := bankOf v } : Bus).Sound banks :=
  { h with romBank := bankOf_ne_zero v }

/-- `write_u8` keeps the storage canonical. -/
theorem State.writeU8_sound {s : State} (hc : s.config.valid) (h : s.bus.Sound s.config.romBankCount) (a : Word)
    (v : Byte) : (s.writeU8 a v).bus.Sound s.config.romBankCount := by
  have hp : (s.poke a v).bus.Sound s.config.romBankCount := h.pokeSlot (s.slot_inRange hc a) v
  unfold State.writeU8
  split
  · unfold State.writeRom
    cases s.config.romWritesStick <;> dsimp only <;> split <;> simp
    · exact h.setBank v
    · exact h
    · exact hp.setBank v
    · exact hp
  · split
    · exact ⟨h.1, h.2, h.3, h.4, h.5, h.6, h.7, h.8, h.9⟩
    · split
      · exact h.setIo (by decide) _
      · split
        · exact h
        · split
          · have := h.setIo (i := 0x50) (by decide) v
            exact ⟨this.1, this.2, this.3, this.4, this.5, this.6, this.7, this.8, this.9⟩
          · exact hp

/-! ### Reading after a store -/

theorem Bus.pokeSlot_bootRomMapped (b : Bus) (x : Slot) (v : Byte) : (b.pokeSlot x v).bootRomMapped = b.bootRomMapped := by
  cases x <;> rfl

theorem Bus.pokeSlot_romBank (b : Bus) (x : Slot) (v : Byte) : (b.pokeSlot x v).romBank = b.romBank := by
  cases x <;> rfl

theorem State.slot_poke (s : State) (w : Word) (v : Byte) (a : Word) : (s.poke w v).slot a = s.slot a :=
  State.slot_congr (s := s) (t := s.poke w v) (s.bus.pokeSlot_bootRomMapped _ _) (s.bus.pokeSlot_romBank _ _) rfl a

/-- A byte stored with no side effect reads back at every address of its slot, and nowhere else (rules R51, R234). -/
theorem State.readU8_poke {s : State} (h : s.bus.Sound s.config.romBankCount) (w : Word) (v : Byte) (a : Word) :
    (s.poke w v).readU8 a = if s.slot a = s.slot w ∧ s.slot w ≠ .gap then v else s.readU8 a := by
  rw [State.readU8, State.slot_poke, State.poke_bus, h.readSlot_pokeSlot]; rfl

/-- Which addresses 0x4000-0x7FFF is the one place where the bank register shows. -/
theorem State.slot_setBank (s : State) (n : BitVec 5) {a : Word} (h : ¬(0x4000 ≤ a.toNat ∧ a.toNat ≤ 0x7FFF)) :
    { s with bus := { s.bus with romBank := n } }.slot a = s.slot a := by
  unfold State.slot
  dsimp only
  by_cases h1 : a.toNat ≤ 0x3FFF
  · rw [if_pos h1, if_pos h1]
  · have h2 : ¬a.toNat ≤ 0x7FFF := by omega
    rw [if_neg h2, if_neg h2]

/-- Addresses up to 0x00FF are the one place where the overlay shows. -/
theorem State.slot_setMapped (s : State) (m : Bool) (io : Memory) {a : Word} (h : ¬a.toNat ≤ 0x00FF) :
    { s with bus := { s.bus with io := io, bootRomMapped := m } }.slot a = s.slot a := by
  have e1 : ¬(m = true ∧ a.toNat ≤ 0x00FF) := fun c => h c.2
  have e2 : ¬(s.bus.bootRomMapped = true ∧ a.toNat ≤ 0x00FF) := fun c => h c.2
  unfold State.slot
  dsimp only
  rw [if_neg e1, if_neg e2]
  rfl

theorem Bus.readSlot_setBank (b : Bus) (n : BitVec 5) (x : Slot) : ({ b with romBank := n } : Bus).readSlot x = b.readSlot x := by
  cases x <;> rfl

theorem State.readU8_bankSelect (s : State) (v : Byte) {a : Word} (h : ¬(0x4000 ≤ a.toNat ∧ a.toNat ≤ 0x7FFF)) :
    (s.bankSelect v).readU8 a = s.readU8 a := by
  have e : (s.bankSelect v).slot a = s.slot a := s.slot_setBank _ h
  rw [State.readU8, e]
  exact Bus.readSlot_setBank _ _ _

/-- A store changes nothing outside its byte and what it remaps (rules R51, R52, R41). -/
theorem State.readU8_writeU8_outside {s : State} (h : s.bus.Sound s.config.romBankCount) {w a : Word} (v : Byte)
    (o : s.outside w a) : (s.writeU8 w v).readU8 a = s.readU8 a := by
  obtain ⟨o1, o2⟩ := o
  have hp : (s.poke w v).readU8 a = s.readU8 a := by rw [State.readU8_poke h, if_neg (fun c => o1 c.1)]
  have hw : w.toNat < 65536 := w.isLt
  have io : ∀ (i : Nat) (x : Byte), s.slot w = .io i → (s.putIo i x).readU8 a = s.readU8 a := by
    intro i x hi
    have : (s.putIo i x).slot a = s.slot a := State.slot_congr rfl rfl rfl a
    rw [State.readU8, this, State.readU8]
    have := h.readSlot_pokeSlot (.io i) (s.slot a) x
    rw [if_neg (fun c => o1 (c.1.trans hi.symm))] at this
    exact this
  unfold State.writeU8
  by_cases c1 : w.toNat ≤ 0x7FFF
  · rw [if_pos c1]
    unfold State.writeRom
    by_cases c2 : 0x2000 ≤ w.toNat ∧ w.toNat ≤ 0x3FFF
    · have ha : ¬(0x4000 ≤ a.toNat ∧ a.toNat ≤ 0x7FFF) := fun c => o2 (.inl ⟨c2.1, c2.2, c.1, c.2⟩)
      dsimp only
      rw [if_pos c2, State.readU8_bankSelect _ _ ha]
      split
      · exact hp
      · rfl
    · dsimp only
      rw [if_neg c2]
      split
      · exact hp
      · rfl
  · rw [if_neg c1]
    by_cases c2 : w = 0xFF04#16
    · subst c2
      rw [if_pos rfl]
      have hs : s.slot 0xFF04#16 = .div := by simp [State.slot]
      have e : ({ s with bus := { s.bus with divCounter := 0x0000#16 } } : State).slot a = s.slot a :=
        State.slot_congr rfl rfl rfl a
      rw [State.readU8, e, State.readU8]
      rw [hs] at o1
      revert o1
      cases s.slot a <;> intro o1 <;> first | rfl | exact absurd rfl o1
    · rw [if_neg c2]
      by_cases c3 : w = 0xFF41#16
      · subst c3
        rw [if_pos rfl]
        exact io _ _ (by simp [State.slot])
      · rw [if_neg c3]
        by_cases c4 : w = 0xFF44#16
        · rw [if_pos c4]
        · rw [if_neg c4]
          by_cases c5 : w = 0xFF50#16
          · subst c5
            rw [if_pos rfl]
            have ha : ¬a.toNat ≤ 0x00FF := fun c => o2 (.inr ⟨rfl, c⟩)
            have e : ({ s with bus := { s.bus with io := s.bus.io.set blankByte 0x50 v, bootRomMapped := false } } :
                State).slot a = s.slot a := State.slot_setMapped s _ _ ha
            rw [State.readU8, e]
            have := io 0x50 v (by simp [State.slot])
            have e2 : (s.putIo 0x50 v).slot a = s.slot a := State.slot_congr rfl rfl rfl a
            rw [State.readU8, e2] at this
            rw [← this]
            cases s.slot a <;> rfl
          · rw [if_neg c5]
            exact hp

/-- A CPU store writes the bus and nothing else (rule R51). -/
theorem State.writeU8_eq (s : State) (a : Word) (v : Byte) : s.writeU8 a v = { s with bus := (s.writeU8 a v).bus } := by
  unfold State.writeU8
  split
  · unfold State.writeRom
    dsimp only
    split <;> split <;> rfl
  · split
    · rfl
    · split
      · rfl
      · split
        · rfl
        · split <;> rfl

theorem Bus.readSlot_setMapped (b : Bus) (m : Bool) (x : Slot) :
    ({ b with bootRomMapped := m } : Bus).readSlot x = b.readSlot x := by
  cases x <;> rfl

end Sys2Proof.Machine
end

