-- ==== Sys2Proof/Laws/Flags.lean ====
section
/-! SUPPORT. The flag byte: what writing flags leaves in each bit of F, and that F's low nibble is never touched. -/

namespace Sys2Proof.Machine

/-- Writing all four flags is one byte, with F[3:0] kept (rules R20, R21). -/
theorem putZNHC_eq (z n h c : Bool) (f : Byte) : putZNHC z n h c f = flagByte z n h c ||| (f &&& 0x0F#8) := by
  revert z n h c f; decide +kernel

/-- Writing Z, N and Hf keeps Cf (rules R147, R181). -/
theorem putZNH_eq (z n h : Bool) (f : Byte) :
    putH h (putN n (putZ z f)) = flagByte z n h (flagC f) ||| (f &&& 0x0F#8) := by
  revert z n h f; decide +kernel

/-- Writing N, Hf and Cf keeps Z (rules R153, R157). -/
theorem putNHC_eq (n h c : Bool) (f : Byte) :
    putC c (putH h (putN n f)) = flagByte (flagZ f) n h c ||| (f &&& 0x0F#8) := by
  revert n h c f; decide +kernel

/-- CPL's writes: N and Hf set, Z and Cf kept (rule R152). -/
theorem putNH_eq (n h : Bool) (f : Byte) :
    putH h (putN n f) = flagByte (flagZ f) n h (flagC f) ||| (f &&& 0x0F#8) := by
  revert n h f; decide +kernel

/-- DAA's writes: Z, Hf and Cf written, N kept (rule R151). -/
theorem putZHC_eq (z h c : Bool) (f : Byte) :
    putC c (putH h (putZ z f)) = flagByte z (flagN f) h c ||| (f &&& 0x0F#8) := by
  revert z h c f; decide +kernel

/-- The low nibble of a byte made of flags and the old low nibble is the old low nibble. -/
theorem flagByte_low (z n h c : Bool) (f : Byte) : (flagByte z n h c ||| (f &&& 0x0F#8)) &&& 0x0F#8 = f &&& 0x0F#8 := by
  revert z n h c f; decide +kernel

/-- A masked byte has a zero low nibble (rules R21, R121). -/
theorem maskF_low (v : Byte) : maskF v &&& 0x0F#8 = 0#8 := by
  revert v; decide +kernel

/-- Every flag write keeps F[3:0]. -/
theorem putFlags_low (z n h c : Bool) (f : Byte) : putZNHC z n h c f &&& 0x0F#8 = f &&& 0x0F#8 := by
  rw [putZNHC_eq, flagByte_low]

theorem putZNH_low (z n h : Bool) (f : Byte) : putH h (putN n (putZ z f)) &&& 0x0F#8 = f &&& 0x0F#8 := by
  rw [putZNH_eq, flagByte_low]

theorem putNHC_low (n h c : Bool) (f : Byte) : putC c (putH h (putN n f)) &&& 0x0F#8 = f &&& 0x0F#8 := by
  rw [putNHC_eq, flagByte_low]

theorem putNH_low (n h : Bool) (f : Byte) : putH h (putN n f) &&& 0x0F#8 = f &&& 0x0F#8 := by
  rw [putNH_eq, flagByte_low]

theorem putZHC_low (z h c : Bool) (f : Byte) : putC c (putH h (putZ z f)) &&& 0x0F#8 = f &&& 0x0F#8 := by
  rw [putZHC_eq, flagByte_low]

/-! ### F and the general registers -/

@[simp] theorem RegFile.put_f (rf : RegFile) (r : Reg8) (v : Byte) : (rf.put r v).f = rf.f := by cases r <;> rfl

@[simp] theorem RegFile.putHl_f (rf : RegFile) (v : Word) : (rf.putHl v).f = rf.f := rfl

@[simp] theorem RegFile.putBc_f (rf : RegFile) (v : Word) : (rf.putBc v).f = rf.f := rfl

@[simp] theorem RegFile.putDe_f (rf : RegFile) (v : Word) : (rf.putDe v).f = rf.f := rfl

@[simp] theorem RegFile.putAf_f (rf : RegFile) (v : Word) : (rf.putAf v).f = maskF (loByte v) := rfl

@[simp] theorem State.putPair_f (s : State) (p : Reg16) (v : Word) : (s.putPair p v).regs.f = s.regs.f := by
  cases p <;> rfl

@[simp] theorem State.memStep_f (s : State) (p : RegMem) : (s.memStep p).regs.f = s.regs.f := by
  cases p <;> rfl

end Sys2Proof.Machine
end

