-- ==== Sys2Proof/Laws/Effect.lean ====
section
/-! SUPPORT. What one instruction can do, said once: it completes, or it records a fatal error and changes nothing
else. When it completes it performs exactly its stores on the bus and leaves the PPU, the frame counter, the fault and
the configuration alone. The invariants are derived from this, not from the 512 meanings. -/

namespace Sys2Proof.Machine

/-- The effect of a completed instruction outside the CPU's registers. -/
structure CpuEffect (s t : State) (ws : List (Word × Byte)) : Prop where
  bus : t.bus = (s.storeAll ws).bus
  ppu : t.ppu = s.ppu
  frameCycles : t.frameCycles = s.frameCycles
  config : t.config = s.config
  fault : t.fault = s.fault
  skip : t.skip = false
  flags : s.regs.f &&& 0x0F#8 = 0#8 → t.regs.f &&& 0x0F#8 = 0#8
  cycles : 4 ≤ t.cycles ∧ t.cycles ≤ 24 ∧ t.cycles % 4 = 0

/-- A meaning that answers a next state with that effect. -/
def Completes (o : Out State) (s : State) (ws : List (Word × Byte)) : Prop := ∃ t, o = .next t ∧ CpuEffect s t ws

/-- A store sees the bus and the configuration alone. -/
theorem State.writeU8_bus_of (s t : State) (h1 : t.bus = s.bus) (h2 : t.config = s.config) (a : Word) (v : Byte) :
    (t.writeU8 a v).bus = (s.writeU8 a v).bus := by
  have hs : t.slot a = s.slot a := State.slot_of_bus h1 h2 a
  unfold State.writeU8 State.writeRom
  simp only [h1, h2, State.io]
  split
  · cases s.config.romWritesStick <;> split <;> simp [h1, hs]
  · split
    · rfl
    · split
      · simp [h1]
      · split
        · exact h1
        · split
          · rfl
          · simp [h1, hs]

theorem sub_one_sub_one (a : Word) : a - 1 - 1 = a - 2 := by bv_omega

/-- A push is its two stores (rule R61). -/
theorem State.push16_bus (s : State) (v : Word) : (s.push16 v).bus = (s.storeAll (s.pushed v)).bus := by
  have h1 : (s.pushByte (hiByte v)).bus = (s.writeU8 (s.sp - 1) (hiByte v)).bus := State.writeU8_bus_of s { s with sp := s.sp - 1 } rfl rfl _ _
  simp only [State.push16, State.pushed, State.storeAll]
  rw [State.pushByte, State.pushByte_sp, sub_one_sub_one]
  exact State.writeU8_bus_of _ _ (by simpa using h1) (by simp) _ _

theorem State.storeAll_one (s : State) (a : Word) (v : Byte) : (s.storeAll [(a, v)]).bus = (s.writeU8 a v).bus := rfl

/-- The bus after a list of stores sees the bus and the configuration alone. -/
theorem State.storeAll_bus_of : ∀ (s t : State), t.bus = s.bus → t.config = s.config → ∀ ws : List (Word × Byte),
    (t.storeAll ws).bus = (s.storeAll ws).bus
  | _, _, h1, _, [] => h1
  | _, _, h1, h2, (a, v) :: ws => State.storeAll_bus_of _ _ (State.writeU8_bus_of _ _ h1 h2 a v) (by simpa using h2) ws

/-- What a rule must do for its instruction to complete with the stores `ws`. -/
structure RuleEffect (s r : State) (c : Nat) (ws : List (Word × Byte)) : Prop where
  bus : r.bus = (s.storeAll ws).bus
  ppu : r.ppu = s.ppu
  frameCycles : r.frameCycles = s.frameCycles
  config : r.config = s.config
  fault : r.fault = s.fault
  flags : r.regs.f &&& 0x0F#8 = s.regs.f &&& 0x0F#8 ∨ r.regs.f &&& 0x0F#8 = 0#8
  cycles : r.cycles = c ∨ (4 ≤ r.cycles ∧ r.cycles ≤ 24 ∧ r.cycles % 4 = 0)

theorem runRule_completes {len c : Nat} {rule : State → State} {s : State} {ws : List (Word × Byte)}
    (hc : 4 ≤ c ∧ c ≤ 24 ∧ c % 4 = 0) (h : RuleEffect s (rule (s.begin c)) c ws) :
    Completes (runRule len c rule s) s ws := by
  refine ⟨_, rfl, ?_⟩
  constructor
  · simpa using h.bus
  · simpa using h.ppu
  · simpa using h.frameCycles
  · simpa using h.config
  · simpa using h.fault
  · simp
  · intro hf
    simp only [State.advance_regs]
    rcases h.flags with e | e
    · rw [e, hf]
    · exact e
  · simp only [State.advance_cycles]
    rcases h.cycles with e | e
    · rw [e]; exact hc
    · exact e

/-! ### Rules that store nothing -/

theorem ldRegReg_effect (dst r : Reg8) (s : State) : Completes (ldRegReg dst r s) s [] :=
  runRule_completes (by decide) ⟨rfl, rfl, rfl, rfl, rfl, .inl (by simp), .inl rfl⟩

theorem ldRegImm_effect (dst : Reg8) (n : Byte) (s : State) : Completes (ldRegImm dst n s) s [] :=
  runRule_completes (by decide) ⟨rfl, rfl, rfl, rfl, rfl, .inl (by simp), .inl rfl⟩

theorem loadByte_effect' {len c : Nat} (hc : 4 ≤ c ∧ c ≤ 24 ∧ c % 4 = 0) (dst : Reg8) (a : Word) (s : State) :
    Completes (loadByte len c dst a s) s [] :=
  runRule_completes hc ⟨rfl, rfl, rfl, rfl, rfl, .inl (by simp), .inl rfl⟩

theorem ldRegAtHl_effect (dst : Reg8) (s : State) : Completes (ldRegAtHl dst s) s [] :=
  loadByte_effect' (by decide) dst s.hl s

theorem ldAAtMem_effect (p : RegMem) (s : State) : Completes (ldAAtMem p s) s [] :=
  runRule_completes (by decide) ⟨by simp; rfl, by simp, by simp, by simp, by simp, .inl (by simp), .inl (by simp)⟩

theorem ldPairImm_effect (p : Reg16) (nn : Word) (s : State) : Completes (ldPairImm p nn s) s [] :=
  runRule_completes (by decide) ⟨by simp; rfl, by simp, by simp, by simp, by simp, .inl (by simp), .inl (by simp)⟩

theorem ldSpHl_effect (s : State) : Completes (execLdSpHl s) s [] :=
  runRule_completes (by decide) ⟨rfl, rfl, rfl, rfl, rfl, .inl rfl, .inl rfl⟩

theorem addSpInto_low (s : State) (p : Reg16) (n : Byte) :
    (s.addSpInto p n).regs.f &&& 0x0F#8 = s.regs.f &&& 0x0F#8 := by
  simp [State.addSpInto, putFlags_low]

theorem ldHlSpE8_effect (n : Byte) (s : State) : Completes (execLdHlSpE8 n s) s [] :=
  runRule_completes (by decide)
    ⟨by simp; rfl, by simp, by simp, by simp, by simp, .inl (by simp [addSpInto_low]), .inl (by simp)⟩

theorem addSpE8_effect (n : Byte) (s : State) : Completes (execAddSpE8 n s) s [] :=
  runRule_completes (by decide)
    ⟨by simp; rfl, by simp, by simp, by simp, by simp, .inl (by simp [addSpInto_low]), .inl (by simp)⟩

theorem popPair_effect (p : RegStk) (s : State) : Completes (popPair p s) s [] :=
  runRule_completes (by decide)
    ⟨by simp; rfl, by simp, by simp, by simp, by simp,
      by cases p <;> first | exact .inl rfl | exact .inr (maskF_low _), .inl (by simp)⟩

theorem aluApply_low (s : State) (op : AluOp) (v : Byte) :
    (s.aluApply op v).regs.f &&& 0x0F#8 = s.regs.f &&& 0x0F#8 := by
  unfold State.aluApply; dsimp only; split <;> simp [putFlags_low]

theorem aluApply_rest (s : State) (op : AluOp) (v : Byte) :
    (s.aluApply op v).bus = s.bus ∧ (s.aluApply op v).ppu = s.ppu ∧ (s.aluApply op v).frameCycles = s.frameCycles ∧
      (s.aluApply op v).config = s.config ∧ (s.aluApply op v).fault = s.fault ∧
      (s.aluApply op v).cycles = s.cycles := by
  unfold State.aluApply; dsimp only; split <;> simp

theorem aluApply_completes {len c : Nat} (hc : 4 ≤ c ∧ c ≤ 24 ∧ c % 4 = 0) (op : AluOp) (v : State → Byte) (s : State) :
    Completes (runRule len c (fun t => t.aluApply op (v t)) s) s [] := by
  obtain ⟨h1, h2, h3, h4, h5, h6⟩ := aluApply_rest (s.begin c) op (v (s.begin c))
  exact runRule_completes hc ⟨h1, h2, h3, h4, h5, .inl (aluApply_low (s.begin c) op _), .inl h6⟩

theorem aluReg_effect (op : AluOp) (r : Reg8) (s : State) : Completes (aluReg op r s) s [] :=
  aluApply_completes (by decide) op (fun t => t.reg r) s

theorem aluAtHl_effect (op : AluOp) (s : State) : Completes (aluAtHl op s) s [] :=
  aluApply_completes (by decide) op (fun t => t.readU8 t.hl) s

theorem aluImm_effect (op : AluOp) (n : Byte) (s : State) : Completes (aluImm op n s) s [] :=
  aluApply_completes (by decide) op (fun _ => n) s

theorem incReg_effect (r : Reg8) (s : State) : Completes (incReg r s) s [] :=
  runRule_completes (by decide)
    ⟨rfl, rfl, rfl, rfl, rfl, .inl (by simp [State.putStepFlags, putZNH_low]), .inl rfl⟩

theorem decReg_effect (r : Reg8) (s : State) : Completes (decReg r s) s [] :=
  runRule_completes (by decide)
    ⟨rfl, rfl, rfl, rfl, rfl, .inl (by simp [State.putStepFlags, putZNH_low]), .inl rfl⟩

theorem daa_effect (s : State) : Completes (execDaa s) s [] :=
  runRule_completes (by decide) ⟨rfl, rfl, rfl, rfl, rfl, .inl (by simp [State.adjustA, putZHC_low]), .inl rfl⟩

theorem cpl_effect (s : State) : Completes (execCpl s) s [] :=
  runRule_completes (by decide) ⟨rfl, rfl, rfl, rfl, rfl, .inl (by simp [putNH_low]), .inl rfl⟩

theorem scf_effect (s : State) : Completes (execScf s) s [] :=
  runRule_completes (by decide) ⟨rfl, rfl, rfl, rfl, rfl, .inl (by simp [putNHC_low]), .inl rfl⟩

theorem ccf_effect (s : State) : Completes (execCcf s) s [] :=
  runRule_completes (by decide) ⟨rfl, rfl, rfl, rfl, rfl, .inl (by simp [putNHC_low]), .inl rfl⟩

theorem incPair_effect (p : Reg16) (s : State) : Completes (incPair p s) s [] :=
  runRule_completes (by decide) ⟨by simp; rfl, by simp, by simp, by simp, by simp, .inl (by simp), .inl (by simp)⟩

theorem decPair_effect (p : Reg16) (s : State) : Completes (decPair p s) s [] :=
  runRule_completes (by decide) ⟨by simp; rfl, by simp, by simp, by simp, by simp, .inl (by simp), .inl (by simp)⟩

theorem addHlPair_effect (p : Reg16) (s : State) : Completes (addHlPair p s) s [] :=
  runRule_completes (by decide) ⟨rfl, rfl, rfl, rfl, rfl, .inl (by simp [putNHC_low]), .inl rfl⟩

theorem accRotate_effect (op : RotOp) (s : State) : Completes (accRotate op s) s [] :=
  runRule_completes (by decide) ⟨rfl, rfl, rfl, rfl, rfl, .inl (by simp [putFlags_low]), .inl rfl⟩

theorem rotReg_effect (op : RotOp) (r : Reg8) (s : State) : Completes (rotReg op r s) s [] :=
  runRule_completes (by decide) ⟨rfl, rfl, rfl, rfl, rfl, .inl (by simp [putFlags_low]), .inl rfl⟩

theorem bitReg_effect (b : Fin 8) (r : Reg8) (s : State) : Completes (bitReg b r s) s [] :=
  runRule_completes (by decide) ⟨rfl, rfl, rfl, rfl, rfl, .inl (by simp [putZNH_low]), .inl rfl⟩

theorem bitAtHl_effect (b : Fin 8) (s : State) : Completes (bitAtHl b s) s [] :=
  runRule_completes (by decide) ⟨rfl, rfl, rfl, rfl, rfl, .inl (by simp [putZNH_low]), .inl rfl⟩

theorem resReg_effect (b : Fin 8) (r : Reg8) (s : State) : Completes (resReg b r s) s [] :=
  runRule_completes (by decide) ⟨rfl, rfl, rfl, rfl, rfl, .inl (by simp), .inl rfl⟩

theorem setReg_effect (b : Fin 8) (r : Reg8) (s : State) : Completes (setReg b r s) s [] :=
  runRule_completes (by decide) ⟨rfl, rfl, rfl, rfl, rfl, .inl (by simp), .inl rfl⟩

theorem jrE8_effect (n : Byte) (s : State) : Completes (execJrE8 n s) s [] :=
  runRule_completes (by decide) ⟨rfl, rfl, rfl, rfl, rfl, .inl rfl, .inl rfl⟩

theorem jpA16_effect (nn : Word) (s : State) : Completes (execJpA16 nn s) s [] :=
  runRule_completes (by decide) ⟨rfl, rfl, rfl, rfl, rfl, .inl rfl, .inl rfl⟩

theorem jpHl_effect (s : State) : Completes (execJpHl s) s [] :=
  runRule_completes (by decide) ⟨rfl, rfl, rfl, rfl, rfl, .inl rfl, .inl rfl⟩

theorem ret_effect (s : State) : Completes (execRet s) s [] :=
  runRule_completes (by decide) ⟨rfl, rfl, rfl, rfl, rfl, .inl rfl, .inl rfl⟩

theorem reti_effect (s : State) : Completes (execReti s) s [] :=
  runRule_completes (by decide) ⟨rfl, rfl, rfl, rfl, rfl, .inl rfl, .inl rfl⟩

/-- A conditional rule: what it does when the condition holds, nothing when it fails (rule R187). -/
theorem when_effect {s : State} {cc : Cond} {c taken : Nat} {rule : State → State} {ws : List (Word × Byte)}
    (ht : 4 ≤ taken ∧ taken ≤ 24 ∧ taken % 4 = 0) (h : RuleEffect s (rule (s.begin c)) c ws) :
    RuleEffect s ((s.begin c).when cc taken rule) c (if condHolds cc s.regs.f then ws else []) := by
  by_cases hcc : condHolds cc s.regs.f = true
  · have e : (s.begin c).when cc taken rule = (rule (s.begin c)).putCycles taken := if_pos hcc
    rw [if_pos hcc, e]
    exact ⟨h.bus, h.ppu, h.frameCycles, h.config, h.fault, h.flags, .inr ht⟩
  · have e : (s.begin c).when cc taken rule = s.begin c := if_neg hcc
    rw [if_neg hcc, e]
    exact ⟨rfl, rfl, rfl, rfl, rfl, .inl rfl, .inl rfl⟩

theorem jumpRelIf_effect (cc : Cond) (n : Byte) (s : State) : Completes (jumpRelIf cc n s) s [] := by
  have := runRule_completes (len := 2) (rule := fun t => t.when cc 12 (·.jumpRel n)) (by decide)
    (when_effect (cc := cc) (taken := 12) (by decide)
      (⟨rfl, rfl, rfl, rfl, rfl, .inl rfl, .inl rfl⟩ : RuleEffect s ((s.begin 8).jumpRel n) 8 []))
  simpa [jumpRelIf] using this

theorem jumpIf_effect (cc : Cond) (nn : Word) (s : State) : Completes (jumpIf cc nn s) s [] := by
  have := runRule_completes (len := 3) (rule := fun t => t.when cc 16 (·.jump nn)) (by decide)
    (when_effect (cc := cc) (taken := 16) (by decide)
      (⟨rfl, rfl, rfl, rfl, rfl, .inl rfl, .inl rfl⟩ : RuleEffect s ((s.begin 12).jump nn) 12 []))
  simpa [jumpIf] using this

theorem returnIf_effect (cc : Cond) (s : State) : Completes (returnIf cc s) s [] := by
  have := runRule_completes (len := 1) (rule := fun t => t.when cc 20 State.popPc) (by decide)
    (when_effect (cc := cc) (taken := 20) (by decide)
      (⟨rfl, rfl, rfl, rfl, rfl, .inl rfl, .inl rfl⟩ : RuleEffect s ((s.begin 8).popPc) 8 []))
  simpa [returnIf] using this

theorem nop_effect (s : State) : Completes (execNop s) s [] :=
  runRule_completes (by decide) ⟨rfl, rfl, rfl, rfl, rfl, .inl rfl, .inl rfl⟩

theorem halt_effect (s : State) : Completes (execHalt s) s [] :=
  runRule_completes (by decide) ⟨rfl, rfl, rfl, rfl, rfl, .inl rfl, .inl rfl⟩

theorem di_effect (s : State) : Completes (execDi s) s [] :=
  runRule_completes (by decide) ⟨rfl, rfl, rfl, rfl, rfl, .inl rfl, .inl rfl⟩

theorem ei_effect (s : State) : Completes (execEi s) s [] :=
  runRule_completes (by decide) ⟨rfl, rfl, rfl, rfl, rfl, .inl rfl, .inl rfl⟩

/-! ### Rules that store -/

theorem writeU8_effect (s : State) (c : Nat) (a : Word) (v : Byte) :
    RuleEffect s ((s.begin c).writeU8 a v) c [(a, v)] :=
  ⟨State.writeU8_bus_of s (s.begin c) rfl rfl a v, by simp, by simp, by simp, by simp, .inl (by simp), .inl (by simp)⟩

theorem storeByte_effect' {len c : Nat} (hc : 4 ≤ c ∧ c ≤ 24 ∧ c % 4 = 0) (a : Word) (v : Byte) (s : State) :
    Completes (storeByte len c a v s) s [(a, v)] :=
  runRule_completes hc (writeU8_effect s c a v)

theorem ldAtHlReg_effect (r : Reg8) (s : State) : Completes (ldAtHlReg r s) s [(s.hl, s.reg r)] :=
  storeByte_effect' (by decide) _ _ s

theorem ldAtMemA_effect (p : RegMem) (s : State) : Completes (ldAtMemA p s) s [(s.memAddr p, s.reg .a)] := by
  have h := writeU8_effect s 8 (s.memAddr p) (s.reg .a)
  exact runRule_completes (by decide)
    ⟨(State.memStep_bus _ p).trans h.bus, by simp, by simp, by simp, by simp, .inl (by simp), .inl (by simp)⟩

theorem ldAtA16Sp_effect (nn : Word) (s : State) :
    Completes (execLdAtA16Sp nn s) s [(nn, loByte s.sp), (nn + 1, hiByte s.sp)] :=
  runRule_completes (by decide)
    ⟨State.writeU8_bus_of (s.writeU8 nn (loByte s.sp)) ((s.begin 20).writeU8 nn (loByte s.sp))
        (State.writeU8_bus_of s (s.begin 20) rfl rfl _ _) (by simp) _ _, by simp, by simp, by simp, by simp,
      .inl (by simp), .inl (by simp)⟩

theorem push16_effect (s : State) (c : Nat) (v : Word) : RuleEffect s ((s.begin c).push16 v) c (s.pushed v) :=
  ⟨(State.push16_bus _ v).trans (State.storeAll_bus_of s (s.begin c) rfl rfl _), by simp, by simp, by simp, by simp,
    .inl (by simp), .inl (by simp)⟩

theorem pushPair_effect (p : RegStk) (s : State) : Completes (pushPair p s) s (s.pushed (s.stk p)) :=
  runRule_completes (by decide) (push16_effect s 16 (s.stk p))

theorem call_effect (s : State) (c len : Nat) (a : Word) :
    RuleEffect s ((s.begin c).call len a) c (s.pushed (s.nextPc len)) := by
  have h := push16_effect s c (s.nextPc len)
  exact ⟨h.bus, h.ppu, h.frameCycles, h.config, h.fault, h.flags, h.cycles⟩

theorem callA16_effect (nn : Word) (s : State) : Completes (execCallA16 nn s) s (s.pushed (s.pc + 3)) :=
  runRule_completes (by decide) (call_effect s 24 3 nn)

theorem callIf_effect (cc : Cond) (nn : Word) (s : State) :
    Completes (callIf cc nn s) s (if condHolds cc s.regs.f then s.pushed (s.pc + 3) else []) :=
  runRule_completes (by decide) (when_effect (by decide) (call_effect s 12 3 nn))

theorem restart_effect (y : Fin 8) (s : State) : Completes (restart y s) s (s.pushed (s.pc + 1)) :=
  runRule_completes (by decide) (call_effect s 16 1 _)

theorem incAtHl_effect (s : State) : Completes (execIncAtHl s) s [(s.hl, s.readU8 s.hl + 1)] := by
  have h := writeU8_effect s 12 s.hl (s.readU8 s.hl + 1)
  exact runRule_completes (by decide) ⟨h.bus, h.ppu, h.frameCycles, h.config, h.fault,
    .inl (by simp [State.incAtHl, State.putStepFlags, putZNH_low]), h.cycles⟩

theorem decAtHl_effect (s : State) : Completes (execDecAtHl s) s [(s.hl, s.readU8 s.hl - 1)] := by
  have h := writeU8_effect s 12 s.hl (s.readU8 s.hl - 1)
  exact runRule_completes (by decide) ⟨h.bus, h.ppu, h.frameCycles, h.config, h.fault,
    .inl (by simp [State.decAtHl, State.putStepFlags, putZNH_low]), h.cycles⟩

theorem rotAtHl_effect (op : RotOp) (s : State) :
    Completes (rotAtHl op s) s [(s.hl, (rotEval op (s.readU8 s.hl) (flagC s.regs.f)).1)] := by
  have h := writeU8_effect s 16 s.hl (rotEval op (s.readU8 s.hl) (flagC s.regs.f)).1
  exact runRule_completes (by decide) ⟨h.bus, h.ppu, h.frameCycles, h.config, h.fault,
    .inl (by simp [putFlags_low]), h.cycles⟩

theorem resAtHl_effect (b : Fin 8) (s : State) :
    Completes (resAtHl b s) s [(s.hl, clearBit b (s.readU8 s.hl))] :=
  runRule_completes (by decide) (writeU8_effect s 16 s.hl _)

theorem setAtHl_effect (b : Fin 8) (s : State) :
    Completes (setAtHl b s) s [(s.hl, setBit b (s.readU8 s.hl))] :=
  runRule_completes (by decide) (writeU8_effect s 16 s.hl _)

theorem Operand8.ofCode_reg {z : Nat} {r : Reg8} (h : Operand8.ofCode z = .reg r) : z ≠ 6 := by
  rintro rfl; exact Operand8.noConfusion h

theorem Operand8.ofCode_atHl {z : Nat} (h : Operand8.ofCode z = .atHl) : z = 6 := by
  unfold Operand8.ofCode at h; split at h <;> simp_all

/-- The prefixed entry (rule R205). -/
theorem prefixedEntry_effect (op : Byte) (s : State) : Completes (prefixedEntry op s) s (s.prefixedStores op) := by
  unfold prefixedEntry State.prefixedStores
  cases hz : Operand8.ofCode (fieldZ op) with
  | reg r =>
    rw [if_pos (Operand8.ofCode_reg hz)]
    match fieldX op with
    | 0 => exact rotReg_effect _ _ s
    | 1 => exact bitReg_effect _ _ s
    | 2 => exact resReg_effect _ _ s
    | _ + 3 => exact setReg_effect _ _ s
  | atHl =>
    rw [if_neg (fun c => c (Operand8.ofCode_atHl hz))]
    match fieldX op with
    | 0 => exact rotAtHl_effect _ s
    | 1 => exact bitAtHl_effect _ s
    | 2 => exact resAtHl_effect _ s
    | _ + 3 => exact setAtHl_effect _ s

theorem loadByte_effect (len c : Nat) (dst : Reg8) (a : Word) (s : State)
    (hc : 4 ≤ c ∧ c ≤ 24 ∧ c % 4 = 0 := by decide) : Completes (loadByte len c dst a s) s [] :=
  loadByte_effect' hc dst a s

theorem storeByte_effect (len c : Nat) (a : Word) (v : Byte) (s : State)
    (hc : 4 ≤ c ∧ c ≤ 24 ∧ c % 4 = 0 := by decide) : Completes (storeByte len c a v s) s [(a, v)] :=
  storeByte_effect' hc a v s

/-- STOP completes under `halt_like` and records its error otherwise (rule R202). -/
theorem stopByConfig_effect (s : State) :
    Completes (stopByConfig s) s [] ∨ ∃ e, stopByConfig s = .next (s.raise e) := by
  unfold stopByConfig
  cases s.config.stopBehaviour with
  | notImplemented => exact .inr ⟨_, rfl⟩
  | haltLike =>
    exact .inl (runRule_completes (by decide) ⟨rfl, rfl, rfl, rfl, rfl, .inl rfl, .inl rfl⟩)

/-- What any instruction can do: complete with exactly its stores, or record a fatal error and change nothing else. -/
theorem exec_effect (i : Instr) (s : State) :
    Completes (exec i s) s (s.stores i) ∨ ∃ e, exec i s = .next (s.raise e) := by
  cases i with
  | nop => exact .inl (nop_effect s)
  | ldBcN16 nn => exact .inl (ldPairImm_effect .bc nn s)
  | ldAtBcA => exact .inl (ldAtMemA_effect .atBc s)
  | incBc => exact .inl (incPair_effect .bc s)
  | incB => exact .inl (incReg_effect .b s)
  | decB => exact .inl (decReg_effect .b s)
  | ldBN8 n => exact .inl (ldRegImm_effect .b n s)
  | rlca => exact .inl (accRotate_effect .rlc s)
  | ldAtA16Sp nn => exact .inl (ldAtA16Sp_effect nn s)
  | addHlBc => exact .inl (addHlPair_effect .bc s)
  | ldAAtBc => exact .inl (ldAAtMem_effect .atBc s)
  | decBc => exact .inl (decPair_effect .bc s)
  | incC => exact .inl (incReg_effect .c s)
  | decC => exact .inl (decReg_effect .c s)
  | ldCN8 n => exact .inl (ldRegImm_effect .c n s)
  | rrca => exact .inl (accRotate_effect .rrc s)
  | stop n => exact stopByConfig_effect s
  | ldDeN16 nn => exact .inl (ldPairImm_effect .de nn s)
  | ldAtDeA => exact .inl (ldAtMemA_effect .atDe s)
  | incDe => exact .inl (incPair_effect .de s)
  | incD => exact .inl (incReg_effect .d s)
  | decD => exact .inl (decReg_effect .d s)
  | ldDN8 n => exact .inl (ldRegImm_effect .d n s)
  | rla => exact .inl (accRotate_effect .rl s)
  | jrE8 n => exact .inl (jrE8_effect n s)
  | addHlDe => exact .inl (addHlPair_effect .de s)
  | ldAAtDe => exact .inl (ldAAtMem_effect .atDe s)
  | decDe => exact .inl (decPair_effect .de s)
  | incE => exact .inl (incReg_effect .e s)
  | decE => exact .inl (decReg_effect .e s)
  | ldEN8 n => exact .inl (ldRegImm_effect .e n s)
  | rra => exact .inl (accRotate_effect .rr s)
  | jrNzE8 n => exact .inl (jumpRelIf_effect .nz n s)
  | ldHlN16 nn => exact .inl (ldPairImm_effect .hl nn s)
  | ldAtHlIncA => exact .inl (ldAtMemA_effect .atHlInc s)
  | incHl => exact .inl (incPair_effect .hl s)
  | incH => exact .inl (incReg_effect .h s)
  | decH => exact .inl (decReg_effect .h s)
  | ldHN8 n => exact .inl (ldRegImm_effect .h n s)
  | daa => exact .inl (daa_effect s)
  | jrZE8 n => exact .inl (jumpRelIf_effect .z n s)
  | addHlHl => exact .inl (addHlPair_effect .hl s)
  | ldAAtHlInc => exact .inl (ldAAtMem_effect .atHlInc s)
  | decHl => exact .inl (decPair_effect .hl s)
  | incL => exact .inl (incReg_effect .l s)
  | decL => exact .inl (decReg_effect .l s)
  | ldLN8 n => exact .inl (ldRegImm_effect .l n s)
  | cpl => exact .inl (cpl_effect s)
  | jrNcE8 n => exact .inl (jumpRelIf_effect .nc n s)
  | ldSpN16 nn => exact .inl (ldPairImm_effect .sp nn s)
  | ldAtHlDecA => exact .inl (ldAtMemA_effect .atHlDec s)
  | incSp => exact .inl (incPair_effect .sp s)
  | incAtHl => exact .inl (incAtHl_effect s)
  | decAtHl => exact .inl (decAtHl_effect s)
  | ldAtHlN8 n => exact .inl (storeByte_effect 2 12 s.hl n s)
  | scf => exact .inl (scf_effect s)
  | jrCE8 n => exact .inl (jumpRelIf_effect .c n s)
  | addHlSp => exact .inl (addHlPair_effect .sp s)
  | ldAAtHlDec => exact .inl (ldAAtMem_effect .atHlDec s)
  | decSp => exact .inl (decPair_effect .sp s)
  | incA => exact .inl (incReg_effect .a s)
  | decA => exact .inl (decReg_effect .a s)
  | ldAN8 n => exact .inl (ldRegImm_effect .a n s)
  | ccf => exact .inl (ccf_effect s)
  | ldBB => exact .inl (ldRegReg_effect .b .b s)
  | ldBC => exact .inl (ldRegReg_effect .b .c s)
  | ldBD => exact .inl (ldRegReg_effect .b .d s)
  | ldBE => exact .inl (ldRegReg_effect .b .e s)
  | ldBH => exact .inl (ldRegReg_effect .b .h s)
  | ldBL => exact .inl (ldRegReg_effect .b .l s)
  | ldBAtHl => exact .inl (ldRegAtHl_effect .b s)
  | ldBA => exact .inl (ldRegReg_effect .b .a s)
  | ldCB => exact .inl (ldRegReg_effect .c .b s)
  | ldCC => exact .inl (ldRegReg_effect .c .c s)
  | ldCD => exact .inl (ldRegReg_effect .c .d s)
  | ldCE => exact .inl (ldRegReg_effect .c .e s)
  | ldCH => exact .inl (ldRegReg_effect .c .h s)
  | ldCL => exact .inl (ldRegReg_effect .c .l s)
  | ldCAtHl => exact .inl (ldRegAtHl_effect .c s)
  | ldCA => exact .inl (ldRegReg_effect .c .a s)
  | ldDB => exact .inl (ldRegReg_effect .d .b s)
  | ldDC => exact .inl (ldRegReg_effect .d .c s)
  | ldDD => exact .inl (ldRegReg_effect .d .d s)
  | ldDE => exact .inl (ldRegReg_effect .d .e s)
  | ldDH => exact .inl (ldRegReg_effect .d .h s)
  | ldDL => exact .inl (ldRegReg_effect .d .l s)
  | ldDAtHl => exact .inl (ldRegAtHl_effect .d s)
  | ldDA => exact .inl (ldRegReg_effect .d .a s)
  | ldEB => exact .inl (ldRegReg_effect .e .b s)
  | ldEC => exact .inl (ldRegReg_effect .e .c s)
  | ldED => exact .inl (ldRegReg_effect .e .d s)
  | ldEE => exact .inl (ldRegReg_effect .e .e s)
  | ldEH => exact .inl (ldRegReg_effect .e .h s)
  | ldEL => exact .inl (ldRegReg_effect .e .l s)
  | ldEAtHl => exact .inl (ldRegAtHl_effect .e s)
  | ldEA => exact .inl (ldRegReg_effect .e .a s)
  | ldHB => exact .inl (ldRegReg_effect .h .b s)
  | ldHC => exact .inl (ldRegReg_effect .h .c s)
  | ldHD => exact .inl (ldRegReg_effect .h .d s)
  | ldHE => exact .inl (ldRegReg_effect .h .e s)
  | ldHH => exact .inl (ldRegReg_effect .h .h s)
  | ldHL => exact .inl (ldRegReg_effect .h .l s)
  | ldHAtHl => exact .inl (ldRegAtHl_effect .h s)
  | ldHA => exact .inl (ldRegReg_effect .h .a s)
  | ldLB => exact .inl (ldRegReg_effect .l .b s)
  | ldLC => exact .inl (ldRegReg_effect .l .c s)
  | ldLD => exact .inl (ldRegReg_effect .l .d s)
  | ldLE => exact .inl (ldRegReg_effect .l .e s)
  | ldLH => exact .inl (ldRegReg_effect .l .h s)
  | ldLL => exact .inl (ldRegReg_effect .l .l s)
  | ldLAtHl => exact .inl (ldRegAtHl_effect .l s)
  | ldLA => exact .inl (ldRegReg_effect .l .a s)
  | ldAtHlB => exact .inl (ldAtHlReg_effect .b s)
  | ldAtHlC => exact .inl (ldAtHlReg_effect .c s)
  | ldAtHlD => exact .inl (ldAtHlReg_effect .d s)
  | ldAtHlE => exact .inl (ldAtHlReg_effect .e s)
  | ldAtHlH => exact .inl (ldAtHlReg_effect .h s)
  | ldAtHlL => exact .inl (ldAtHlReg_effect .l s)
  | halt => exact .inl (halt_effect s)
  | ldAtHlA => exact .inl (ldAtHlReg_effect .a s)
  | ldAB => exact .inl (ldRegReg_effect .a .b s)
  | ldAC => exact .inl (ldRegReg_effect .a .c s)
  | ldAD => exact .inl (ldRegReg_effect .a .d s)
  | ldAE => exact .inl (ldRegReg_effect .a .e s)
  | ldAH => exact .inl (ldRegReg_effect .a .h s)
  | ldAL => exact .inl (ldRegReg_effect .a .l s)
  | ldAAtHl => exact .inl (ldRegAtHl_effect .a s)
  | ldAA => exact .inl (ldRegReg_effect .a .a s)
  | addAB => exact .inl (aluReg_effect .add .b s)
  | addAC => exact .inl (aluReg_effect .add .c s)
  | addAD => exact .inl (aluReg_effect .add .d s)
  | addAE => exact .inl (aluReg_effect .add .e s)
  | addAH => exact .inl (aluReg_effect .add .h s)
  | addAL => exact .inl (aluReg_effect .add .l s)
  | addAAtHl => exact .inl (aluAtHl_effect .add s)
  | addAA => exact .inl (aluReg_effect .add .a s)
  | adcAB => exact .inl (aluReg_effect .adc .b s)
  | adcAC => exact .inl (aluReg_effect .adc .c s)
  | adcAD => exact .inl (aluReg_effect .adc .d s)
  | adcAE => exact .inl (aluReg_effect .adc .e s)
  | adcAH => exact .inl (aluReg_effect .adc .h s)
  | adcAL => exact .inl (aluReg_effect .adc .l s)
  | adcAAtHl => exact .inl (aluAtHl_effect .adc s)
  | adcAA => exact .inl (aluReg_effect .adc .a s)
  | subAB => exact .inl (aluReg_effect .sub .b s)
  | subAC => exact .inl (aluReg_effect .sub .c s)
  | subAD => exact .inl (aluReg_effect .sub .d s)
  | subAE => exact .inl (aluReg_effect .sub .e s)
  | subAH => exact .inl (aluReg_effect .sub .h s)
  | subAL => exact .inl (aluReg_effect .sub .l s)
  | subAAtHl => exact .inl (aluAtHl_effect .sub s)
  | subAA => exact .inl (aluReg_effect .sub .a s)
  | sbcAB => exact .inl (aluReg_effect .sbc .b s)
  | sbcAC => exact .inl (aluReg_effect .sbc .c s)
  | sbcAD => exact .inl (aluReg_effect .sbc .d s)
  | sbcAE => exact .inl (aluReg_effect .sbc .e s)
  | sbcAH => exact .inl (aluReg_effect .sbc .h s)
  | sbcAL => exact .inl (aluReg_effect .sbc .l s)
  | sbcAAtHl => exact .inl (aluAtHl_effect .sbc s)
  | sbcAA => exact .inl (aluReg_effect .sbc .a s)
  | andAB => exact .inl (aluReg_effect .and .b s)
  | andAC => exact .inl (aluReg_effect .and .c s)
  | andAD => exact .inl (aluReg_effect .and .d s)
  | andAE => exact .inl (aluReg_effect .and .e s)
  | andAH => exact .inl (aluReg_effect .and .h s)
  | andAL => exact .inl (aluReg_effect .and .l s)
  | andAAtHl => exact .inl (aluAtHl_effect .and s)
  | andAA => exact .inl (aluReg_effect .and .a s)
  | xorAB => exact .inl (aluReg_effect .xor .b s)
  | xorAC => exact .inl (aluReg_effect .xor .c s)
  | xorAD => exact .inl (aluReg_effect .xor .d s)
  | xorAE => exact .inl (aluReg_effect .xor .e s)
  | xorAH => exact .inl (aluReg_effect .xor .h s)
  | xorAL => exact .inl (aluReg_effect .xor .l s)
  | xorAAtHl => exact .inl (aluAtHl_effect .xor s)
  | xorAA => exact .inl (aluReg_effect .xor .a s)
  | orAB => exact .inl (aluReg_effect .or .b s)
  | orAC => exact .inl (aluReg_effect .or .c s)
  | orAD => exact .inl (aluReg_effect .or .d s)
  | orAE => exact .inl (aluReg_effect .or .e s)
  | orAH => exact .inl (aluReg_effect .or .h s)
  | orAL => exact .inl (aluReg_effect .or .l s)
  | orAAtHl => exact .inl (aluAtHl_effect .or s)
  | orAA => exact .inl (aluReg_effect .or .a s)
  | cpAB => exact .inl (aluReg_effect .cp .b s)
  | cpAC => exact .inl (aluReg_effect .cp .c s)
  | cpAD => exact .inl (aluReg_effect .cp .d s)
  | cpAE => exact .inl (aluReg_effect .cp .e s)
  | cpAH => exact .inl (aluReg_effect .cp .h s)
  | cpAL => exact .inl (aluReg_effect .cp .l s)
  | cpAAtHl => exact .inl (aluAtHl_effect .cp s)
  | cpAA => exact .inl (aluReg_effect .cp .a s)
  | retNz => exact .inl (returnIf_effect .nz s)
  | popBc => exact .inl (popPair_effect .bc s)
  | jpNzA16 nn => exact .inl (jumpIf_effect .nz nn s)
  | jpA16 nn => exact .inl (jpA16_effect nn s)
  | callNzA16 nn => exact .inl (callIf_effect .nz nn s)
  | pushBc => exact .inl (pushPair_effect .bc s)
  | addAN8 n => exact .inl (aluImm_effect .add n s)
  | rst00 => exact .inl (restart_effect 0 s)
  | retZ => exact .inl (returnIf_effect .z s)
  | ret => exact .inl (ret_effect s)
  | jpZA16 nn => exact .inl (jumpIf_effect .z nn s)
  | prefixCb op => exact .inl (prefixedEntry_effect op s)
  | callZA16 nn => exact .inl (callIf_effect .z nn s)
  | callA16 nn => exact .inl (callA16_effect nn s)
  | adcAN8 n => exact .inl (aluImm_effect .adc n s)
  | rst08 => exact .inl (restart_effect 1 s)
  | retNc => exact .inl (returnIf_effect .nc s)
  | popDe => exact .inl (popPair_effect .de s)
  | jpNcA16 nn => exact .inl (jumpIf_effect .nc nn s)
  | undefinedD3 => exact .inr ⟨_, rfl⟩
  | callNcA16 nn => exact .inl (callIf_effect .nc nn s)
  | pushDe => exact .inl (pushPair_effect .de s)
  | subAN8 n => exact .inl (aluImm_effect .sub n s)
  | rst10 => exact .inl (restart_effect 2 s)
  | retC => exact .inl (returnIf_effect .c s)
  | reti => exact .inl (reti_effect s)
  | jpCA16 nn => exact .inl (jumpIf_effect .c nn s)
  | undefinedDB => exact .inr ⟨_, rfl⟩
  | callCA16 nn => exact .inl (callIf_effect .c nn s)
  | undefinedDD => exact .inr ⟨_, rfl⟩
  | sbcAN8 n => exact .inl (aluImm_effect .sbc n s)
  | rst18 => exact .inl (restart_effect 3 s)
  | ldhAtA8A n => exact .inl (storeByte_effect 2 12 (highPage n) (s.reg .a) s)
  | popHl => exact .inl (popPair_effect .hl s)
  | ldAtCA => exact .inl (storeByte_effect 1 8 s.ioAddr (s.reg .a) s)
  | undefinedE3 => exact .inr ⟨_, rfl⟩
  | undefinedE4 => exact .inr ⟨_, rfl⟩
  | pushHl => exact .inl (pushPair_effect .hl s)
  | andAN8 n => exact .inl (aluImm_effect .and n s)
  | rst20 => exact .inl (restart_effect 4 s)
  | addSpE8 n => exact .inl (addSpE8_effect n s)
  | jpHl => exact .inl (jpHl_effect s)
  | ldAtA16A nn => exact .inl (storeByte_effect 3 16 nn (s.reg .a) s)
  | undefinedEB => exact .inr ⟨_, rfl⟩
  | undefinedEC => exact .inr ⟨_, rfl⟩
  | undefinedED => exact .inr ⟨_, rfl⟩
  | xorAN8 n => exact .inl (aluImm_effect .xor n s)
  | rst28 => exact .inl (restart_effect 5 s)
  | ldhAAtA8 n => exact .inl (loadByte_effect 2 12 .a (highPage n) s)
  | popAf => exact .inl (popPair_effect .af s)
  | ldAAtC => exact .inl (loadByte_effect 1 8 .a s.ioAddr s)
  | di => exact .inl (di_effect s)
  | undefinedF4 => exact .inr ⟨_, rfl⟩
  | pushAf => exact .inl (pushPair_effect .af s)
  | orAN8 n => exact .inl (aluImm_effect .or n s)
  | rst30 => exact .inl (restart_effect 6 s)
  | ldHlSpE8 n => exact .inl (ldHlSpE8_effect n s)
  | ldSpHl => exact .inl (ldSpHl_effect s)
  | ldAAtA16 nn => exact .inl (loadByte_effect 3 16 .a nn s)
  | ei => exact .inl (ei_effect s)
  | undefinedFC => exact .inr ⟨_, rfl⟩
  | undefinedFD => exact .inr ⟨_, rfl⟩
  | cpAN8 n => exact .inl (aluImm_effect .cp n s)
  | rst38 => exact .inl (restart_effect 7 s)
  | rlcB => exact .inl (rotReg_effect .rlc .b s)
  | rlcC => exact .inl (rotReg_effect .rlc .c s)
  | rlcD => exact .inl (rotReg_effect .rlc .d s)
  | rlcE => exact .inl (rotReg_effect .rlc .e s)
  | rlcH => exact .inl (rotReg_effect .rlc .h s)
  | rlcL => exact .inl (rotReg_effect .rlc .l s)
  | rlcAtHl => exact .inl (rotAtHl_effect .rlc s)
  | rlcA => exact .inl (rotReg_effect .rlc .a s)
  | rrcB => exact .inl (rotReg_effect .rrc .b s)
  | rrcC => exact .inl (rotReg_effect .rrc .c s)
  | rrcD => exact .inl (rotReg_effect .rrc .d s)
  | rrcE => exact .inl (rotReg_effect .rrc .e s)
  | rrcH => exact .inl (rotReg_effect .rrc .h s)
  | rrcL => exact .inl (rotReg_effect .rrc .l s)
  | rrcAtHl => exact .inl (rotAtHl_effect .rrc s)
  | rrcA => exact .inl (rotReg_effect .rrc .a s)
  | rlB => exact .inl (rotReg_effect .rl .b s)
  | rlC => exact .inl (rotReg_effect .rl .c s)
  | rlD => exact .inl (rotReg_effect .rl .d s)
  | rlE => exact .inl (rotReg_effect .rl .e s)
  | rlH => exact .inl (rotReg_effect .rl .h s)
  | rlL => exact .inl (rotReg_effect .rl .l s)
  | rlAtHl => exact .inl (rotAtHl_effect .rl s)
  | rlA => exact .inl (rotReg_effect .rl .a s)
  | rrB => exact .inl (rotReg_effect .rr .b s)
  | rrC => exact .inl (rotReg_effect .rr .c s)
  | rrD => exact .inl (rotReg_effect .rr .d s)
  | rrE => exact .inl (rotReg_effect .rr .e s)
  | rrH => exact .inl (rotReg_effect .rr .h s)
  | rrL => exact .inl (rotReg_effect .rr .l s)
  | rrAtHl => exact .inl (rotAtHl_effect .rr s)
  | rrA => exact .inl (rotReg_effect .rr .a s)
  | slaB => exact .inl (rotReg_effect .sla .b s)
  | slaC => exact .inl (rotReg_effect .sla .c s)
  | slaD => exact .inl (rotReg_effect .sla .d s)
  | slaE => exact .inl (rotReg_effect .sla .e s)
  | slaH => exact .inl (rotReg_effect .sla .h s)
  | slaL => exact .inl (rotReg_effect .sla .l s)
  | slaAtHl => exact .inl (rotAtHl_effect .sla s)
  | slaA => exact .inl (rotReg_effect .sla .a s)
  | sraB => exact .inl (rotReg_effect .sra .b s)
  | sraC => exact .inl (rotReg_effect .sra .c s)
  | sraD => exact .inl (rotReg_effect .sra .d s)
  | sraE => exact .inl (rotReg_effect .sra .e s)
  | sraH => exact .inl (rotReg_effect .sra .h s)
  | sraL => exact .inl (rotReg_effect .sra .l s)
  | sraAtHl => exact .inl (rotAtHl_effect .sra s)
  | sraA => exact .inl (rotReg_effect .sra .a s)
  | swapB => exact .inl (rotReg_effect .swap .b s)
  | swapC => exact .inl (rotReg_effect .swap .c s)
  | swapD => exact .inl (rotReg_effect .swap .d s)
  | swapE => exact .inl (rotReg_effect .swap .e s)
  | swapH => exact .inl (rotReg_effect .swap .h s)
  | swapL => exact .inl (rotReg_effect .swap .l s)
  | swapAtHl => exact .inl (rotAtHl_effect .swap s)
  | swapA => exact .inl (rotReg_effect .swap .a s)
  | srlB => exact .inl (rotReg_effect .srl .b s)
  | srlC => exact .inl (rotReg_effect .srl .c s)
  | srlD => exact .inl (rotReg_effect .srl .d s)
  | srlE => exact .inl (rotReg_effect .srl .e s)
  | srlH => exact .inl (rotReg_effect .srl .h s)
  | srlL => exact .inl (rotReg_effect .srl .l s)
  | srlAtHl => exact .inl (rotAtHl_effect .srl s)
  | srlA => exact .inl (rotReg_effect .srl .a s)
  | bit0B => exact .inl (bitReg_effect 0 .b s)
  | bit0C => exact .inl (bitReg_effect 0 .c s)
  | bit0D => exact .inl (bitReg_effect 0 .d s)
  | bit0E => exact .inl (bitReg_effect 0 .e s)
  | bit0H => exact .inl (bitReg_effect 0 .h s)
  | bit0L => exact .inl (bitReg_effect 0 .l s)
  | bit0AtHl => exact .inl (bitAtHl_effect 0 s)
  | bit0A => exact .inl (bitReg_effect 0 .a s)
  | bit1B => exact .inl (bitReg_effect 1 .b s)
  | bit1C => exact .inl (bitReg_effect 1 .c s)
  | bit1D => exact .inl (bitReg_effect 1 .d s)
  | bit1E => exact .inl (bitReg_effect 1 .e s)
  | bit1H => exact .inl (bitReg_effect 1 .h s)
  | bit1L => exact .inl (bitReg_effect 1 .l s)
  | bit1AtHl => exact .inl (bitAtHl_effect 1 s)
  | bit1A => exact .inl (bitReg_effect 1 .a s)
  | bit2B => exact .inl (bitReg_effect 2 .b s)
  | bit2C => exact .inl (bitReg_effect 2 .c s)
  | bit2D => exact .inl (bitReg_effect 2 .d s)
  | bit2E => exact .inl (bitReg_effect 2 .e s)
  | bit2H => exact .inl (bitReg_effect 2 .h s)
  | bit2L => exact .inl (bitReg_effect 2 .l s)
  | bit2AtHl => exact .inl (bitAtHl_effect 2 s)
  | bit2A => exact .inl (bitReg_effect 2 .a s)
  | bit3B => exact .inl (bitReg_effect 3 .b s)
  | bit3C => exact .inl (bitReg_effect 3 .c s)
  | bit3D => exact .inl (bitReg_effect 3 .d s)
  | bit3E => exact .inl (bitReg_effect 3 .e s)
  | bit3H => exact .inl (bitReg_effect 3 .h s)
  | bit3L => exact .inl (bitReg_effect 3 .l s)
  | bit3AtHl => exact .inl (bitAtHl_effect 3 s)
  | bit3A => exact .inl (bitReg_effect 3 .a s)
  | bit4B => exact .inl (bitReg_effect 4 .b s)
  | bit4C => exact .inl (bitReg_effect 4 .c s)
  | bit4D => exact .inl (bitReg_effect 4 .d s)
  | bit4E => exact .inl (bitReg_effect 4 .e s)
  | bit4H => exact .inl (bitReg_effect 4 .h s)
  | bit4L => exact .inl (bitReg_effect 4 .l s)
  | bit4AtHl => exact .inl (bitAtHl_effect 4 s)
  | bit4A => exact .inl (bitReg_effect 4 .a s)
  | bit5B => exact .inl (bitReg_effect 5 .b s)
  | bit5C => exact .inl (bitReg_effect 5 .c s)
  | bit5D => exact .inl (bitReg_effect 5 .d s)
  | bit5E => exact .inl (bitReg_effect 5 .e s)
  | bit5H => exact .inl (bitReg_effect 5 .h s)
  | bit5L => exact .inl (bitReg_effect 5 .l s)
  | bit5AtHl => exact .inl (bitAtHl_effect 5 s)
  | bit5A => exact .inl (bitReg_effect 5 .a s)
  | bit6B => exact .inl (bitReg_effect 6 .b s)
  | bit6C => exact .inl (bitReg_effect 6 .c s)
  | bit6D => exact .inl (bitReg_effect 6 .d s)
  | bit6E => exact .inl (bitReg_effect 6 .e s)
  | bit6H => exact .inl (bitReg_effect 6 .h s)
  | bit6L => exact .inl (bitReg_effect 6 .l s)
  | bit6AtHl => exact .inl (bitAtHl_effect 6 s)
  | bit6A => exact .inl (bitReg_effect 6 .a s)
  | bit7B => exact .inl (bitReg_effect 7 .b s)
  | bit7C => exact .inl (bitReg_effect 7 .c s)
  | bit7D => exact .inl (bitReg_effect 7 .d s)
  | bit7E => exact .inl (bitReg_effect 7 .e s)
  | bit7H => exact .inl (bitReg_effect 7 .h s)
  | bit7L => exact .inl (bitReg_effect 7 .l s)
  | bit7AtHl => exact .inl (bitAtHl_effect 7 s)
  | bit7A => exact .inl (bitReg_effect 7 .a s)
  | res0B => exact .inl (resReg_effect 0 .b s)
  | res0C => exact .inl (resReg_effect 0 .c s)
  | res0D => exact .inl (resReg_effect 0 .d s)
  | res0E => exact .inl (resReg_effect 0 .e s)
  | res0H => exact .inl (resReg_effect 0 .h s)
  | res0L => exact .inl (resReg_effect 0 .l s)
  | res0AtHl => exact .inl (resAtHl_effect 0 s)
  | res0A => exact .inl (resReg_effect 0 .a s)
  | res1B => exact .inl (resReg_effect 1 .b s)
  | res1C => exact .inl (resReg_effect 1 .c s)
  | res1D => exact .inl (resReg_effect 1 .d s)
  | res1E => exact .inl (resReg_effect 1 .e s)
  | res1H => exact .inl (resReg_effect 1 .h s)
  | res1L => exact .inl (resReg_effect 1 .l s)
  | res1AtHl => exact .inl (resAtHl_effect 1 s)
  | res1A => exact .inl (resReg_effect 1 .a s)
  | res2B => exact .inl (resReg_effect 2 .b s)
  | res2C => exact .inl (resReg_effect 2 .c s)
  | res2D => exact .inl (resReg_effect 2 .d s)
  | res2E => exact .inl (resReg_effect 2 .e s)
  | res2H => exact .inl (resReg_effect 2 .h s)
  | res2L => exact .inl (resReg_effect 2 .l s)
  | res2AtHl => exact .inl (resAtHl_effect 2 s)
  | res2A => exact .inl (resReg_effect 2 .a s)
  | res3B => exact .inl (resReg_effect 3 .b s)
  | res3C => exact .inl (resReg_effect 3 .c s)
  | res3D => exact .inl (resReg_effect 3 .d s)
  | res3E => exact .inl (resReg_effect 3 .e s)
  | res3H => exact .inl (resReg_effect 3 .h s)
  | res3L => exact .inl (resReg_effect 3 .l s)
  | res3AtHl => exact .inl (resAtHl_effect 3 s)
  | res3A => exact .inl (resReg_effect 3 .a s)
  | res4B => exact .inl (resReg_effect 4 .b s)
  | res4C => exact .inl (resReg_effect 4 .c s)
  | res4D => exact .inl (resReg_effect 4 .d s)
  | res4E => exact .inl (resReg_effect 4 .e s)
  | res4H => exact .inl (resReg_effect 4 .h s)
  | res4L => exact .inl (resReg_effect 4 .l s)
  | res4AtHl => exact .inl (resAtHl_effect 4 s)
  | res4A => exact .inl (resReg_effect 4 .a s)
  | res5B => exact .inl (resReg_effect 5 .b s)
  | res5C => exact .inl (resReg_effect 5 .c s)
  | res5D => exact .inl (resReg_effect 5 .d s)
  | res5E => exact .inl (resReg_effect 5 .e s)
  | res5H => exact .inl (resReg_effect 5 .h s)
  | res5L => exact .inl (resReg_effect 5 .l s)
  | res5AtHl => exact .inl (resAtHl_effect 5 s)
  | res5A => exact .inl (resReg_effect 5 .a s)
  | res6B => exact .inl (resReg_effect 6 .b s)
  | res6C => exact .inl (resReg_effect 6 .c s)
  | res6D => exact .inl (resReg_effect 6 .d s)
  | res6E => exact .inl (resReg_effect 6 .e s)
  | res6H => exact .inl (resReg_effect 6 .h s)
  | res6L => exact .inl (resReg_effect 6 .l s)
  | res6AtHl => exact .inl (resAtHl_effect 6 s)
  | res6A => exact .inl (resReg_effect 6 .a s)
  | res7B => exact .inl (resReg_effect 7 .b s)
  | res7C => exact .inl (resReg_effect 7 .c s)
  | res7D => exact .inl (resReg_effect 7 .d s)
  | res7E => exact .inl (resReg_effect 7 .e s)
  | res7H => exact .inl (resReg_effect 7 .h s)
  | res7L => exact .inl (resReg_effect 7 .l s)
  | res7AtHl => exact .inl (resAtHl_effect 7 s)
  | res7A => exact .inl (resReg_effect 7 .a s)
  | set0B => exact .inl (setReg_effect 0 .b s)
  | set0C => exact .inl (setReg_effect 0 .c s)
  | set0D => exact .inl (setReg_effect 0 .d s)
  | set0E => exact .inl (setReg_effect 0 .e s)
  | set0H => exact .inl (setReg_effect 0 .h s)
  | set0L => exact .inl (setReg_effect 0 .l s)
  | set0AtHl => exact .inl (setAtHl_effect 0 s)
  | set0A => exact .inl (setReg_effect 0 .a s)
  | set1B => exact .inl (setReg_effect 1 .b s)
  | set1C => exact .inl (setReg_effect 1 .c s)
  | set1D => exact .inl (setReg_effect 1 .d s)
  | set1E => exact .inl (setReg_effect 1 .e s)
  | set1H => exact .inl (setReg_effect 1 .h s)
  | set1L => exact .inl (setReg_effect 1 .l s)
  | set1AtHl => exact .inl (setAtHl_effect 1 s)
  | set1A => exact .inl (setReg_effect 1 .a s)
  | set2B => exact .inl (setReg_effect 2 .b s)
  | set2C => exact .inl (setReg_effect 2 .c s)
  | set2D => exact .inl (setReg_effect 2 .d s)
  | set2E => exact .inl (setReg_effect 2 .e s)
  | set2H => exact .inl (setReg_effect 2 .h s)
  | set2L => exact .inl (setReg_effect 2 .l s)
  | set2AtHl => exact .inl (setAtHl_effect 2 s)
  | set2A => exact .inl (setReg_effect 2 .a s)
  | set3B => exact .inl (setReg_effect 3 .b s)
  | set3C => exact .inl (setReg_effect 3 .c s)
  | set3D => exact .inl (setReg_effect 3 .d s)
  | set3E => exact .inl (setReg_effect 3 .e s)
  | set3H => exact .inl (setReg_effect 3 .h s)
  | set3L => exact .inl (setReg_effect 3 .l s)
  | set3AtHl => exact .inl (setAtHl_effect 3 s)
  | set3A => exact .inl (setReg_effect 3 .a s)
  | set4B => exact .inl (setReg_effect 4 .b s)
  | set4C => exact .inl (setReg_effect 4 .c s)
  | set4D => exact .inl (setReg_effect 4 .d s)
  | set4E => exact .inl (setReg_effect 4 .e s)
  | set4H => exact .inl (setReg_effect 4 .h s)
  | set4L => exact .inl (setReg_effect 4 .l s)
  | set4AtHl => exact .inl (setAtHl_effect 4 s)
  | set4A => exact .inl (setReg_effect 4 .a s)
  | set5B => exact .inl (setReg_effect 5 .b s)
  | set5C => exact .inl (setReg_effect 5 .c s)
  | set5D => exact .inl (setReg_effect 5 .d s)
  | set5E => exact .inl (setReg_effect 5 .e s)
  | set5H => exact .inl (setReg_effect 5 .h s)
  | set5L => exact .inl (setReg_effect 5 .l s)
  | set5AtHl => exact .inl (setAtHl_effect 5 s)
  | set5A => exact .inl (setReg_effect 5 .a s)
  | set6B => exact .inl (setReg_effect 6 .b s)
  | set6C => exact .inl (setReg_effect 6 .c s)
  | set6D => exact .inl (setReg_effect 6 .d s)
  | set6E => exact .inl (setReg_effect 6 .e s)
  | set6H => exact .inl (setReg_effect 6 .h s)
  | set6L => exact .inl (setReg_effect 6 .l s)
  | set6AtHl => exact .inl (setAtHl_effect 6 s)
  | set6A => exact .inl (setReg_effect 6 .a s)
  | set7B => exact .inl (setReg_effect 7 .b s)
  | set7C => exact .inl (setReg_effect 7 .c s)
  | set7D => exact .inl (setReg_effect 7 .d s)
  | set7E => exact .inl (setReg_effect 7 .e s)
  | set7H => exact .inl (setReg_effect 7 .h s)
  | set7L => exact .inl (setReg_effect 7 .l s)
  | set7AtHl => exact .inl (setAtHl_effect 7 s)
  | set7A => exact .inl (setReg_effect 7 .a s)

end Sys2Proof.Machine
end

