-- ==== Sys2Proof/Laws/Ppu.lean ====
section
/-! SUPPORT. The pixel pipeline: what a tick does to the position in the line, and that it keeps the PPU's part of the
invariant. -/

namespace Sys2Proof.Machine

/-- The PPU's part of the invariant. -/
structure State.PpuSound (s : State) : Prop where
  config : s.config.valid
  bus : s.bus.Sound s.config.romBankCount
  stat : s.stat &&& 0x03#8 = s.ppu.mode.code
  ly : s.ppu.mode.onLine (s.io 0x44).toNat
  line : s.ppu.inLine
  frameBuffer : Sparse.wf blankColor (Config.screenW * Config.screenH) s.ppu.frameBuffer = true

theorem State.Inv.ppuSound {s : State} (h : s.Inv) : s.PpuSound :=
  ⟨h.config, h.bus, h.stat, h.ly, h.line, h.frameBuffer⟩

/-- The I/O byte an address of the I/O region reads from (rule R49). -/
theorem State.slot_io (s : State) (i : Nat) (a : Word) (h1 : a.toNat = 0xFF00 + i) (h2 : i < 0x80) (h3 : i ≠ 4) :
    s.slot a = .io i := by
  apply State.slot_cases s a (fun x => x = .io i)
  all_goals
    intros
    first
    | omega
    | exact congrArg Slot.io (by omega)

/-- A plain I/O register read through the bus is its byte (rule R49). -/
theorem State.readU8_io (s : State) (i : Nat) (a : Word) (h1 : a.toNat = 0xFF00 + i) (h2 : i < 0x80) (h3 : i ≠ 4) :
    s.readU8 a = s.io i := by
  rw [State.readU8, s.slot_io i a h1 h2 h3]; rfl

theorem State.ly_eq (s : State) : s.ly = s.io 0x44 := s.readU8_io 0x44 _ rfl (by decide) (by decide)

theorem State.lcdc_eq (s : State) : s.lcdc = s.io 0x40 := s.readU8_io 0x40 _ rfl (by decide) (by decide)

theorem State.scx_eq (s : State) : s.scx = s.io 0x43 := s.readU8_io 0x43 _ rfl (by decide) (by decide)

theorem State.scy_eq (s : State) : s.scy = s.io 0x42 := s.readU8_io 0x42 _ rfl (by decide) (by decide)

/-- Reading an I/O byte after writing one. -/
theorem State.io_putIo {s : State} {n : Nat} (h : s.bus.Sound n) (i j : Nat) (v : Byte) :
    (s.putIo i v).io j = if j = i then v else s.io j :=
  Memory.get_set h.io

/-- What `SetMode` leaves (rule R210). -/
theorem State.setMode_stat {s : State} {n : Nat} (h : s.bus.Sound n) (m : Mode) :
    (s.setMode m).stat = (s.stat &&& 0xFC#8) ||| m.code := by
  have := State.io_putIo h 0x41 0x41 ((s.stat &&& 0xFC#8) ||| m.code)
  rwa [if_pos rfl] at this

theorem State.setMode_io {s : State} {n : Nat} (h : s.bus.Sound n) (m : Mode) {j : Nat} (hj : j ≠ 0x41) :
    (s.setMode m).io j = s.io j := by
  have := State.io_putIo h 0x41 j ((s.stat &&& 0xFC#8) ||| m.code)
  rwa [if_neg hj] at this

theorem Mode.code_mirror (m : Mode) (x : Byte) : ((x &&& 0xFC#8) ||| m.code) &&& 0x03#8 = m.code := by
  revert x; cases m <;> decide +kernel

theorem State.setMode_sound {s : State} {n : Nat} (h : s.bus.Sound n) (m : Mode) : (s.setMode m).bus.Sound n :=
  h.setIo (by decide) _

theorem State.putLy_sound {s : State} {n : Nat} (h : s.bus.Sound n) (v : Byte) : (s.putLy v).bus.Sound n :=
  h.setIo (by decide) _

/-- `SetMode` gives the new mode its mirror; what is left to show is where the new mode stands in the line. -/
theorem State.PpuSound.setMode {s : State} (hc : s.config.valid) (hb : s.bus.Sound s.config.romBankCount) {m : Mode}
    (hl : m.onLine (s.io 0x44).toNat) (hi : ({ s.ppu with mode := m } : Ppu).inLine)
    (hf : Sparse.wf blankColor (Config.screenW * Config.screenH) s.ppu.frameBuffer = true) :
    (s.setMode m).PpuSound :=
  ⟨hc, State.setMode_sound hb m, by rw [State.setMode_stat hb]; exact m.code_mirror _,
    by rw [State.setMode_io hb m (by decide)]; exact hl, hi, hf⟩

/-! ### The ends of lines -/

/-- `EnterOAMScan` on a visible line with the cycle counter at 0. -/
theorem State.enterOamScan_sound {s : State} (hc : s.config.valid) (hb : s.bus.Sound s.config.romBankCount)
    (hl : (s.io 0x44).toNat < 144) (h0 : s.ppu.lineCycles = 0)
    (hf : Sparse.wf blankColor (Config.screenW * Config.screenH) s.ppu.frameBuffer = true) :
    s.enterOamScan.PpuSound := by
  refine ⟨hc, State.setMode_sound hb _, ?_, ?_, ?_, hf⟩
  · have := State.setMode_stat hb .oamScan
    exact (congrArg (· &&& 0x03#8) this).trans (Mode.code_mirror _ _)
  · have := State.setMode_io hb .oamScan (j := 0x44) (by decide)
    exact (congrArg BitVec.toNat this).trans_lt hl
  · refine ⟨?_, rfl, rfl, rfl, rfl⟩
    exact (congrArg (· < Config.oamScanCycles) h0).mpr (by decide)

theorem State.nextLy_sound {s : State} {n : Nat} (h : s.bus.Sound n) : s.nextLy.bus.Sound n := State.putLy_sound h _

theorem State.nextLy_io {s : State} {n : Nat} (h : s.bus.Sound n) : s.nextLy.io 0x44 = s.io 0x44 + 1 := by
  have := State.io_putIo h 0x44 0x44 (s.ly + 1)
  rw [if_pos rfl] at this
  rw [← State.ly_eq s]
  exact this

theorem State.nextLy_stat {s : State} {n : Nat} (h : s.bus.Sound n) : s.nextLy.stat = s.stat := by
  have := State.io_putIo h 0x44 0x41 (s.ly + 1)
  rwa [if_neg (by decide)] at this

/-- What begins after the increment of LY at the end of a drawn line. -/
theorem State.enterLine_sound {s : State} (hc : s.config.valid) (hb : s.bus.Sound s.config.romBankCount)
    (hl : (s.io 0x44).toNat ≤ 144) (h0 : s.ppu.lineCycles = 0) (hq : s.ppu.fifo = []) (hx : s.ppu.scanlineX = 0)
    (hf : Sparse.wf blankColor (Config.screenW * Config.screenH) s.ppu.frameBuffer = true) :
    s.enterLine.PpuSound := by
  unfold State.enterLine
  split
  · rename_i c
    rw [State.ly_eq] at c
    refine State.PpuSound.setMode hc hb ?_ ⟨?_, hq, hx⟩ hf
    · rw [c]; exact ⟨by decide, by decide⟩
    · show s.ppu.lineCycles < 456; rw [h0]; decide
  · rename_i c
    rw [State.ly_eq] at c
    refine State.enterOamScan_sound hc hb ?_ h0 hf
    have : (s.io 0x44).toNat ≠ 144 := fun e => c (BitVec.eq_of_toNat_eq e)
    omega

theorem State.endOfLine_sound {s : State} (hc : s.config.valid) (hb : s.bus.Sound s.config.romBankCount)
    (hl : (s.io 0x44).toNat < 144)
    (hf : Sparse.wf blankColor (Config.screenW * Config.screenH) s.ppu.frameBuffer = true) :
    s.endOfLine.PpuSound := by
  have hb1 : s.resetLine.bus.Sound s.config.romBankCount := hb
  refine State.enterLine_sound (s := s.resetLine.nextLy) hc (State.nextLy_sound hb1) ?_ rfl rfl rfl hf
  have e1 : s.resetLine.io 0x44 = s.io 0x44 := rfl
  rw [State.nextLy_io hb1, e1]
  bv_omega

theorem State.vBlankLineEnd_sound {s : State} (hc : s.config.valid) (hb : s.bus.Sound s.config.romBankCount)
    (hst : s.stat &&& 0x03#8 = Mode.vBlank.code) (hl : 144 ≤ (s.io 0x44).toNat) (hl2 : (s.io 0x44).toNat < 154)
    (hm : s.ppu.mode = .vBlank) (hq : s.ppu.fifo = []) (hx : s.ppu.scanlineX = 0)
    (hf : Sparse.wf blankColor (Config.screenW * Config.screenH) s.ppu.frameBuffer = true) :
    s.vBlankLineEnd.PpuSound := by
  have hb1 : s.zeroLineCycles.bus.Sound s.config.romBankCount := hb
  have hb2 : s.zeroLineCycles.nextLy.bus.Sound s.config.romBankCount := State.nextLy_sound hb1
  have e1 : s.zeroLineCycles.io 0x44 = s.io 0x44 := rfl
  have e2 := State.nextLy_io hb1
  rw [e1] at e2
  have e3 : (s.zeroLineCycles.nextLy.io 0x44).toNat = (s.io 0x44).toNat + 1 := by rw [e2]; bv_omega
  unfold State.vBlankLineEnd State.wrapLy
  split
  · refine State.enterOamScan_sound (s := s.zeroLineCycles.nextLy.putLy 0#8) hc (State.putLy_sound hb2 _) ?_ rfl hf
    have := State.io_putIo hb2 0x44 0x44 0#8
    rw [if_pos rfl] at this
    rw [State.putLy, this]; decide
  · rename_i c
    rw [State.ly_eq] at c
    have : (s.zeroLineCycles.nextLy.io 0x44).toNat ≠ 154 := fun e => c (BitVec.eq_of_toNat_eq e)
    have hm' : s.zeroLineCycles.nextLy.ppu.mode = .vBlank := hm
    refine ⟨hc, hb2, ?_, ?_, ?_, hf⟩
    · rw [hm', State.nextLy_stat hb1]; exact hst
    · rw [hm', e3]
      show 144 ≤ _ ∧ _ < 154
      omega
    · unfold Ppu.inLine
      simp only [hm']
      exact ⟨show 0 < 456 by decide, hq, hx⟩

/-! ### Drawing -/

theorem length_decodeRow (p : Palette) (hi lo : Byte) : (decodeRow p hi lo).length = 8 := rfl

/-- The fetcher's part of a Drawing tick touches the fetcher's own fields and the FIFO, and nothing else. -/
theorem State.fetcherStep_rest (s : State) :
    s.fetcherStep.ppu.mode = s.ppu.mode ∧ s.fetcherStep.ppu.lineCycles = s.ppu.lineCycles ∧
      s.fetcherStep.ppu.scanlineX = s.ppu.scanlineX ∧ s.fetcherStep.ppu.discard = s.ppu.discard ∧
      s.fetcherStep.ppu.frameBuffer = s.ppu.frameBuffer ∧ s.fetcherStep.ppu.palette = s.ppu.palette ∧
      s.fetcherStep.ppu.fetchDiv = s.ppu.fetchDiv := by
  unfold State.fetcherStep
  split <;> try exact ⟨rfl, rfl, rfl, rfl, rfl, rfl, rfl⟩
  unfold Ppu.pushStage
  split <;> exact ⟨rfl, rfl, rfl, rfl, rfl, rfl, rfl⟩

theorem State.fetchIfDue_rest (s : State) :
    s.fetchIfDue.bus = s.bus ∧ s.fetchIfDue.config = s.config ∧ s.fetchIfDue.ppu.mode = s.ppu.mode ∧
      s.fetchIfDue.ppu.lineCycles = s.ppu.lineCycles ∧ s.fetchIfDue.ppu.scanlineX = s.ppu.scanlineX ∧
      s.fetchIfDue.ppu.discard = s.ppu.discard ∧ s.fetchIfDue.ppu.frameBuffer = s.ppu.frameBuffer ∧
      s.fetchIfDue.ppu.palette = s.ppu.palette ∧ s.fetchIfDue.ppu.fetchDiv = s.ppu.fetchDiv := by
  unfold State.fetchIfDue
  split
  · exact ⟨rfl, rfl, rfl, rfl, rfl, rfl, rfl, rfl, rfl⟩
  · exact ⟨s.fetcherStep_bus, s.fetcherStep_config, s.fetcherStep_rest⟩

/-- A fetcher step goes to the next stage; Push goes on only when it fires, and then adds 8 pixels (rules R216, R220). -/
theorem State.fetcherStep_stage (s : State) (n : Nat) (h : s.ppu.fetcherState = stageAfter n)
    (hf : n % 4 = 3 → s.ppu.fifo.length ≤ 8) :
    s.fetcherStep.ppu.fetcherState = stageAfter (n + 1) ∧
      s.fetcherStep.ppu.fifo.length = s.ppu.fifo.length + if n % 4 = 3 then 8 else 0 := by
  have h4 : n % 4 = 0 ∨ n % 4 = 1 ∨ n % 4 = 2 ∨ n % 4 = 3 := by omega
  unfold State.fetcherStep
  rcases h4 with e | e | e | e
  · have e' : (n + 1) % 4 = 1 := by omega
    simp only [stageAfter, e] at h
    simp [h, stageAfter, e, e']
  · have e' : (n + 1) % 4 = 2 := by omega
    simp only [stageAfter, e] at h
    simp [h, stageAfter, e, e']
  · have e' : (n + 1) % 4 = 3 := by omega
    simp only [stageAfter, e] at h
    simp [h, stageAfter, e, e']
  · have e' : (n + 1) % 4 = 0 := by omega
    simp only [stageAfter, e] at h
    have hle : s.ppu.fifo.length ≤ Config.fifoCap - Config.fifoRefill := hf e
    simp only [h, Ppu.pushStage, hle, if_true]
    simp [stageAfter, e, e', length_decodeRow]

/-- After the fetcher's part of Drawing tick `k + 1`. -/
theorem State.fetchIfDue_drawing {s : State} {k d : Nat} (h : s.ppu.Drawing k d) :
    s.flipDiv.fetchIfDue.ppu.fetcherState = stageAfter ((k + 1) / 2) ∧
      s.flipDiv.fetchIfDue.ppu.fifo.length = if k % 8 = 7 then 8 else fifoAfter k := by
  have hdiv : s.flipDiv.ppu.fetchDiv = !s.ppu.fetchDiv := rfl
  rw [h.div] at hdiv
  unfold State.fetchIfDue
  by_cases hk : k % 2 = 1
  · have e : (k + 1) / 2 = k / 2 + 1 := by omega
    have hd : ¬s.flipDiv.ppu.fetchDiv = true := by rw [hdiv]; simp [hk]
    rw [if_neg hd]
    have hs := State.fetcherStep_stage s.flipDiv (k / 2) h.stage (by
      intro h3
      show s.ppu.fifo.length ≤ 8
      rw [h.fifo]; unfold fifoAfter; split <;> omega)
    rw [e]
    refine ⟨hs.1, hs.2.trans ?_⟩
    show s.ppu.fifo.length + _ = _
    rw [h.fifo]
    have hiff : k / 2 % 4 = 3 ↔ k % 8 = 7 := by omega
    unfold fifoAfter
    by_cases h7 : k % 8 = 7
    · rw [if_pos (hiff.mpr h7), if_pos h7]; split <;> omega
    · rw [if_neg (fun c => h7 (hiff.mp c)), if_neg h7]; simp
  · have e : (k + 1) / 2 = k / 2 := by omega
    have h7 : ¬k % 8 = 7 := by omega
    have hd : s.flipDiv.ppu.fetchDiv = true := by rw [hdiv]; simp [hk]
    rw [if_pos hd, if_neg h7, e]
    exact ⟨h.stage, h.fifo⟩

/-- The pixel step changes the FIFO, the discard count, the column and the picture, and nothing else. -/
theorem State.pixelStep_rest (s : State) :
    s.pixelStep.bus = s.bus ∧ s.pixelStep.config = s.config ∧ s.pixelStep.ppu.mode = s.ppu.mode ∧
      s.pixelStep.ppu.lineCycles = s.ppu.lineCycles ∧ s.pixelStep.ppu.fetcherState = s.ppu.fetcherState ∧
      s.pixelStep.ppu.fetchDiv = s.ppu.fetchDiv ∧ s.pixelStep.ppu.palette = s.ppu.palette := by
  unfold State.pixelStep
  split
  · exact ⟨rfl, rfl, rfl, rfl, rfl, rfl, rfl⟩
  · split <;> exact ⟨rfl, rfl, rfl, rfl, rfl, rfl, rfl⟩

/-- A pixel of a nonempty FIFO is popped: dropped while there is something to discard, else drawn (rule R221). -/
theorem State.pixelStep_pop {s : State} (h : s.ppu.fifo ≠ []) :
    s.pixelStep.ppu.fifo.length = s.ppu.fifo.length - 1 ∧
      s.pixelStep.ppu.discard.toNat = s.ppu.discard.toNat - 1 ∧
      s.pixelStep.ppu.scanlineX = s.ppu.scanlineX + (if s.ppu.discard.toNat = 0 then 1 else 0) := by
  unfold State.pixelStep
  split
  · rename_i e; exact absurd e h
  · rename_i c rest e
    have hlt := s.ppu.discard.isLt
    split
    · rename_i hd
      have : s.ppu.discard.toNat ≠ 0 := fun c => hd (BitVec.eq_of_toNat_eq c)
      refine ⟨by simp [e], ?_, by simp [this]⟩
      show (s.ppu.discard - 1).toNat = _
      bv_omega
    · rename_i hd
      have : s.ppu.discard = 0#3 := by simpa using hd
      refine ⟨by simp [e], ?_, ?_⟩
      · show s.ppu.discard.toNat = _; rw [this]; rfl
      · show s.ppu.scanlineX + 1 = _; rw [this]; rfl

theorem State.pixelStep_empty {s : State} (h : s.ppu.fifo = []) : s.pixelStep = s := by
  unfold State.pixelStep; rw [h]

theorem putPixel_wf {fb : Sparse Color} (h : Sparse.wf blankColor (Config.screenW * Config.screenH) fb = true)
    (ly x : Nat) (c : Color) :
    Sparse.wf blankColor (Config.screenW * Config.screenH) (putPixel fb ly x c) = true := by
  unfold putPixel
  split
  · rename_i e
    refine Sparse.wfFrom_set h (Nat.zero_le _) ?_
    simp only [Config.screenH, Config.screenW] at *
    omega
  · exact h

theorem State.pixelStep_wf {s : State}
    (h : Sparse.wf blankColor (Config.screenW * Config.screenH) s.ppu.frameBuffer = true) :
    Sparse.wf blankColor (Config.screenW * Config.screenH) s.pixelStep.ppu.frameBuffer = true := by
  unfold State.pixelStep
  split
  · exact h
  · split
    · exact h
    · exact putPixel_wf h _ _ _

/-- The position in the line after Drawing tick `k + 1`, before the x = 160 check (rules R213, R220, R221, R224). -/
theorem State.drawTick_position {s : State} {k d : Nat} (h : s.ppu.Drawing k d) :
    let p := s.flipDiv.fetchIfDue.pixelStep.ppu
    p.fetchDiv = decide ((k + 1) % 2 = 1) ∧ p.fetcherState = stageAfter ((k + 1) / 2) ∧
      p.fifo.length = fifoAfter (k + 1) ∧ p.discard.toNat = d - (k + 1 - 7) ∧ p.scanlineX = (k + 1 - 7) - d := by
  intro p
  obtain ⟨_, _, _, _, hx, hdis, _, _, hdiv⟩ := s.flipDiv.fetchIfDue_rest
  obtain ⟨hst, hlen⟩ := State.fetchIfDue_drawing h
  obtain ⟨_, _, _, _, pst, pdiv, _⟩ := s.flipDiv.fetchIfDue.pixelStep_rest
  have hd := h.discard
  have hc := h.column
  have hdis' : s.flipDiv.fetchIfDue.ppu.discard = s.ppu.discard := hdis
  have hx' : s.flipDiv.fetchIfDue.ppu.scanlineX = s.ppu.scanlineX := hx
  refine ⟨?_, pst.trans hst, ?_⟩
  · rw [pdiv, hdiv]
    show (!s.ppu.fetchDiv) = _
    rw [h.div]
    by_cases hk : k % 2 = 1
    · have : (k + 1) % 2 ≠ 1 := by omega
      simp [hk, this]
    · have : (k + 1) % 2 = 1 := by omega
      simp [hk, this]
  · by_cases he : s.flipDiv.fetchIfDue.ppu.fifo = []
    · have e0 : s.flipDiv.fetchIfDue.ppu.fifo.length = 0 := by rw [he]; rfl
      rw [hlen] at e0
      have hk : k < 7 := by unfold fifoAfter at e0; split at e0 <;> try split at e0
                            all_goals omega
      have hp : p = s.flipDiv.fetchIfDue.ppu := by show s.flipDiv.fetchIfDue.pixelStep.ppu = _; rw [State.pixelStep_empty he]
      rw [hp, hdis', hx', hd, hc, hlen]
      refine ⟨?_, by omega, by omega⟩
      unfold fifoAfter
      split
      · omega
      · split <;> split <;> omega
    · obtain ⟨q1, q2, q3⟩ := State.pixelStep_pop he
      have hpos : 0 < s.flipDiv.fetchIfDue.ppu.fifo.length := List.length_pos_iff.mpr he
      rw [hlen] at hpos
      have hk : 7 ≤ k := by unfold fifoAfter at hpos; split at hpos <;> try split at hpos
                            all_goals omega
      refine ⟨?_, ?_, ?_⟩
      · show s.flipDiv.fetchIfDue.pixelStep.ppu.fifo.length = _
        rw [q1, hlen]
        unfold fifoAfter
        split <;> (try split) <;> (try split) <;> omega
      · show s.flipDiv.fetchIfDue.pixelStep.ppu.discard.toNat = _
        rw [q2, hdis', hd]; omega
      · show s.flipDiv.fetchIfDue.pixelStep.ppu.scanlineX = _
        rw [q3, hdis', hx', hd, hc]; split <;> omega

/-! ### The tick -/

theorem State.io_of_bus {s t : State} (h : t.bus = s.bus) (i : Nat) : t.io i = s.io i := by
  simp only [State.io, h]

/-- Drawing tick: the line goes on, or its 160th pixel ends Drawing. -/
theorem State.drawTick_sound {s : State} {k d : Nat} (hc : s.config.valid) (hb : s.bus.Sound s.config.romBankCount)
    (hst : s.stat &&& 0x03#8 = Mode.drawingPixels.code) (hly : (s.io 0x44).toNat < 144)
    (hm : s.ppu.mode = .drawingPixels) (hk : s.ppu.lineCycles = 80 + k + 1) (hd : d ≤ 7) (h : s.ppu.Drawing k d)
    (hf : Sparse.wf blankColor (Config.screenW * Config.screenH) s.ppu.frameBuffer = true) :
    s.drawTick.PpuSound := by
  obtain ⟨b1, c1, m1, l1, _, _, f1, _, _⟩ := s.flipDiv.fetchIfDue_rest
  obtain ⟨b2, c2, m2, l2, _, _, _⟩ := s.flipDiv.fetchIfDue.pixelStep_rest
  obtain ⟨p1, p2, p3, p4, p5⟩ := State.drawTick_position h
  have hx := h.unfinished
  have hcol := h.column
  have hwf : Sparse.wf blankColor (Config.screenW * Config.screenH) s.flipDiv.fetchIfDue.pixelStep.ppu.frameBuffer = true :=
    State.pixelStep_wf (by rw [f1]; exact hf)
  unfold State.drawTick State.endDrawing
  generalize s.flipDiv.fetchIfDue.pixelStep = t at *
  have hcf : t.config = s.config := c2.trans c1
  have hbus : t.bus = s.bus := b2.trans b1
  have hmode : t.ppu.mode = .drawingPixels := (m2.trans m1).trans hm
  have hlc : t.ppu.lineCycles = 80 + k + 1 := (l2.trans l1).trans hk
  have hct : t.config.valid := by rw [hcf]; exact hc
  have hbt : t.bus.Sound t.config.romBankCount := by rw [hcf, hbus]; exact hb
  simp only [Config.screenW] at hx
  have hfl : fifoAfter (k + 1) ≤ 7 := by unfold fifoAfter; split <;> omega
  split
  · rename_i e
    refine State.PpuSound.setMode hct hbt ?_ ?_ hwf
    · rw [State.io_of_bus hbus]; exact hly
    · have e' : t.ppu.scanlineX = 160 := e
      show 247 ≤ t.ppu.lineCycles ∧ t.ppu.lineCycles < 456 ∧ t.ppu.fifo.length ≤ 7 ∧ t.ppu.scanlineX = 160
      omega
  · rename_i e
    have e' : t.ppu.scanlineX ≠ 160 := e
    refine ⟨hct, hbt, ?_, ?_, ?_, hwf⟩
    · rw [hmode, State.stat, State.io_of_bus hbus]; exact hst
    · rw [hmode, State.io_of_bus hbus]; exact hly
    · unfold Ppu.inLine
      simp only [hmode]
      have hk' : t.ppu.lineCycles - Config.oamScanCycles = k + 1 := by simp only [Config.oamScanCycles]; omega
      refine ⟨by simp only [Config.oamScanCycles]; omega, d, hd, ?_⟩
      rw [hk']
      exact ⟨p1, p2, p3, p4, p5, by simp only [Config.screenW]; omega⟩

theorem State.modeTick_sound {s : State} (hc : s.config.valid) (hb : s.bus.Sound s.config.romBankCount)
    (hst : s.stat &&& 0x03#8 = s.ppu.mode.code) (hly : s.ppu.mode.onLine (s.io 0x44).toNat)
    (hl : s.ppu.inLine) (hf : Sparse.wf blankColor (Config.screenW * Config.screenH) s.ppu.frameBuffer = true) :
    s.countCycle.modeTick.PpuSound := by
  have hmode : s.countCycle.ppu.mode = s.ppu.mode := rfl
  have e : s.countCycle.ppu.lineCycles = s.ppu.lineCycles + 1 := rfl
  unfold Ppu.inLine at hl
  unfold State.modeTick
  cases hm : s.ppu.mode with
  | oamScan =>
    rw [hm] at hst hly
    simp only [hm, Config.oamScanCycles] at hl
    obtain ⟨g1, g2, g3, g4, g5⟩ := hl
    rw [hmode, hm]
    dsimp only
    split <;> rename_i c
    · refine State.PpuSound.setMode (s := s.countCycle) hc hb hly ?_ hf
      refine ⟨c, s.ppu.discard.toNat, by have := s.ppu.discard.isLt; omega, ?_⟩
      have hk : ({ s.countCycle.ppu with mode := Mode.drawingPixels } : Ppu).lineCycles - Config.oamScanCycles = 0 := by
        show s.ppu.lineCycles + 1 - 80 = 0; omega
      rw [hk]
      refine ⟨g5, g4, ?_, rfl, ?_, ?_⟩
      · show s.ppu.fifo.length = 0; rw [g2]; rfl
      · show s.ppu.scanlineX = _; rw [g3]; omega
      · show s.ppu.scanlineX < 160; rw [g3]; decide
    · refine ⟨hc, hb, ?_, ?_, ?_, hf⟩
      · rw [hmode, hm]; exact hst
      · rw [hmode, hm]; exact hly
      · unfold Ppu.inLine
        simp only [hmode, hm]
        simp only [Config.oamScanCycles] at c ⊢
        exact ⟨by omega, g2, g3, g4, g5⟩
  | drawingPixels =>
    rw [hm] at hst hly
    simp only [hm, Config.oamScanCycles] at hl
    obtain ⟨g1, d, hd, hD⟩ := hl
    rw [hmode, hm]
    exact State.drawTick_sound (s := s.countCycle) (k := s.ppu.lineCycles - 80) hc hb hst hly hm
      (by show s.ppu.lineCycles + 1 = _; omega) hd ⟨hD.1, hD.2, hD.3, hD.4, hD.5, hD.6⟩ hf
  | hBlank =>
    rw [hm] at hst hly
    simp only [hm, Config.lineCycles] at hl
    obtain ⟨g1, g2, g3, g4⟩ := hl
    rw [hmode, hm]
    dsimp only
    split <;> rename_i c
    · exact State.endOfLine_sound (s := s.countCycle) hc hb hly hf
    · refine ⟨hc, hb, ?_, ?_, ?_, hf⟩
      · rw [hmode, hm]; exact hst
      · rw [hmode, hm]; exact hly
      · unfold Ppu.inLine
        simp only [hmode, hm]
        simp only [Config.lineCycles] at c ⊢
        exact ⟨by omega, by omega, g3, g4⟩
  | vBlank =>
    rw [hm] at hst hly
    simp only [hm, Config.lineCycles] at hl
    obtain ⟨g1, g2, g3⟩ := hl
    rw [hmode, hm]
    dsimp only
    split <;> rename_i c
    · exact State.vBlankLineEnd_sound (s := s.countCycle) hc hb hst hly.1 hly.2 hm g2 g3 hf
    · refine ⟨hc, hb, ?_, ?_, ?_, hf⟩
      · rw [hmode, hm]; exact hst
      · rw [hmode, hm]; exact hly
      · unfold Ppu.inLine
        simp only [hmode, hm]
        simp only [Config.lineCycles] at c ⊢
        exact ⟨by omega, g2, g3⟩

/-- A PPU tick keeps the PPU's part of the invariant. -/
theorem State.ppuTick_sound {s : State} (h : s.PpuSound) : s.ppuTick.PpuSound := by
  unfold State.ppuTick
  split
  · exact State.modeTick_sound h.config h.bus h.stat h.ly h.line h.frameBuffer
  · exact h

theorem State.updateGraphics_sound : ∀ (n : Nat) {s : State}, s.PpuSound → (s.updateGraphics n).PpuSound
  | 0, _, h => h
  | n + 1, _, h => State.updateGraphics_sound n (State.ppuTick_sound h)

end Sys2Proof.Machine
end

