-- ==== Sys2Proof/Laws/Stores.lean ====
section
/-! SUPPORT. What a list of CPU stores keeps: the canonical storage, the PPU's mode bits in STAT, and LY. -/

namespace Sys2Proof.Machine

/-- Only the address 0xFF00 + i reads from I/O byte `i`. -/
theorem State.slot_eq_io {s : State} {a : Word} {i : Nat} (h : s.slot a = .io i) : a.toNat = 0xFF00 + i := by
  revert h
  exact State.slot_cases s a (fun x => x = .io i → a.toNat = 0xFF00 + i) (fun _ _ e => Slot.noConfusion e)
    (fun _ _ e => Slot.noConfusion e) (fun _ _ e => Slot.noConfusion e) (fun _ _ e => Slot.noConfusion e)
    (fun _ _ e => Slot.noConfusion e) (fun _ _ e => Slot.noConfusion e) (fun _ _ e => Slot.noConfusion e)
    (fun _ _ e => Slot.noConfusion e) (fun _ _ e => Slot.noConfusion e) (fun _ e => Slot.noConfusion e)
    (fun h1 _ _ e => by have := Slot.io.inj e; omega) (fun _ _ e => Slot.noConfusion e)
    (fun _ e => Slot.noConfusion e)

/-- A byte put into a slot leaves every other I/O byte alone. -/
theorem State.poke_io {s : State} {n : Nat} (h : s.bus.Sound n) (a : Word) (v : Byte) (i : Nat)
    (hi : a.toNat ≠ 0xFF00 + i) : (s.poke a v).io i = s.io i := by
  have := h.readSlot_pokeSlot (s.slot a) (.io i) v
  rw [if_neg (fun c => hi (State.slot_eq_io c.1.symm))] at this
  exact this

/-- A CPU store keeps LY (rule R38). -/
theorem State.writeU8_ly {s : State} {n : Nat} (h : s.bus.Sound n) (a : Word) (v : Byte) :
    (s.writeU8 a v).io 0x44 = s.io 0x44 := by
  unfold State.writeU8
  by_cases c1 : a.toNat ≤ 0x7FFF
  · rw [if_pos c1]
    have hp := State.poke_io h a v 0x44 (by omega)
    unfold State.writeRom
    cases s.config.romWritesStick <;> dsimp only <;> split
    · rfl
    · rfl
    · exact hp
    · exact hp
  · rw [if_neg c1]
    by_cases c2 : a = 0xFF04#16
    · rw [if_pos c2]; rfl
    · rw [if_neg c2]
      by_cases c3 : a = 0xFF41#16
      · rw [if_pos c3, State.io_putIo h, if_neg (by decide)]
      · rw [if_neg c3]
        by_cases c4 : a = 0xFF44#16
        · rw [if_pos c4]
        · rw [if_neg c4]
          by_cases c5 : a = 0xFF50#16
          · rw [if_pos c5]
            have := State.io_putIo h 0x50 0x44 v
            rwa [if_neg (by decide)] at this
          · rw [if_neg c5]
            exact State.poke_io h a v 0x44 (fun e => c4 (BitVec.eq_of_toNat_eq e))

theorem stat_write_low (v o : Byte) : ((v &&& 0xF8#8) ||| (o &&& 0x07#8)) &&& 0x07#8 = o &&& 0x07#8 := by
  ext i hi
  simp only [BitVec.getElem_and, BitVec.getElem_or]
  have : i = 0 ∨ i = 1 ∨ i = 2 ∨ i = 3 ∨ i = 4 ∨ i = 5 ∨ i = 6 ∨ i = 7 := by omega
  rcases this with rfl | rfl | rfl | rfl | rfl | rfl | rfl | rfl <;> simp

/-- A CPU store keeps STAT[2:0] (rule R36). -/
theorem State.writeU8_stat {s : State} {n : Nat} (h : s.bus.Sound n) (a : Word) (v : Byte) :
    (s.writeU8 a v).stat &&& 0x07#8 = s.stat &&& 0x07#8 := by
  unfold State.writeU8
  by_cases c1 : a.toNat ≤ 0x7FFF
  · rw [if_pos c1]
    have hp := State.poke_io h a v 0x41 (by omega)
    unfold State.writeRom
    cases s.config.romWritesStick <;> dsimp only <;> split
    · rfl
    · rfl
    · exact congrArg (· &&& 0x07#8) hp
    · exact congrArg (· &&& 0x07#8) hp
  · rw [if_neg c1]
    by_cases c2 : a = 0xFF04#16
    · rw [if_pos c2]; rfl
    · rw [if_neg c2]
      by_cases c3 : a = 0xFF41#16
      · rw [if_pos c3, State.stat, State.io_putIo h, if_pos rfl]
        exact stat_write_low v _
      · rw [if_neg c3]
        by_cases c4 : a = 0xFF44#16
        · rw [if_pos c4]
        · rw [if_neg c4]
          by_cases c5 : a = 0xFF50#16
          · rw [if_pos c5]
            have := State.io_putIo h 0x50 0x41 v
            rw [if_neg (by decide)] at this
            exact congrArg (· &&& 0x07#8) this
          · rw [if_neg c5]
            have := State.poke_io h a v 0x41 (fun e => c3 (BitVec.eq_of_toNat_eq e))
            exact congrArg (· &&& 0x07#8) this

/-- What a list of stores keeps. -/
structure StoresKeep (s t : State) : Prop where
  config : t.config = s.config
  sound : t.bus.Sound s.config.romBankCount
  ly : t.io 0x44 = s.io 0x44
  stat : t.stat &&& 0x07#8 = s.stat &&& 0x07#8

theorem State.storeAll_keep : ∀ (ws : List (Word × Byte)) {s : State}, s.config.valid →
    s.bus.Sound s.config.romBankCount → StoresKeep s (s.storeAll ws)
  | [], _, _, h => ⟨rfl, h, rfl, rfl⟩
  | (a, v) :: ws, s, hc, h => by
    have hcf : (s.writeU8 a v).config = s.config := s.writeU8_config a v
    have h1 : (s.writeU8 a v).bus.Sound (s.writeU8 a v).config.romBankCount := by
      rw [hcf]; exact State.writeU8_sound hc h a v
    have hc1 : (s.writeU8 a v).config.valid := by rw [hcf]; exact hc
    have k := State.storeAll_keep ws (s := s.writeU8 a v) hc1 h1
    exact ⟨k.config.trans hcf, hcf ▸ k.sound, k.ly.trans (State.writeU8_ly h a v),
      k.stat.trans (State.writeU8_stat h a v)⟩

end Sys2Proof.Machine
end

