-- ==== Sys2Proof/Laws/Results.lean ====
section
/-! SUPPORT. The forms an instruction's result takes: a store, a push or a list of stores is an update of the bus
alone, and commutes with the counting of cycles. -/

namespace Sys2Proof.Machine

/-- Two states with the same fields are one. -/
theorem State.ext_fields {s t : State} (h1 : s.regs = t.regs) (h2 : s.sp = t.sp) (h3 : s.pc = t.pc)
    (h4 : s.ime = t.ime) (h5 : s.halted = t.halted) (h6 : s.fault = t.fault) (h7 : s.skip = t.skip)
    (h8 : s.cycles = t.cycles) (h9 : s.bus = t.bus) (h10 : s.ppu = t.ppu) (h11 : s.frameCycles = t.frameCycles)
    (h12 : s.config = t.config) : s = t := by
  cases s; cases t; simp_all

/-- A list of stores writes the bus and nothing else. -/
theorem State.storeAll_eq : ∀ (ws : List (Word × Byte)) (s : State),
    s.storeAll ws = { s with bus := (s.storeAll ws).bus }
  | [], _ => rfl
  | (a, v) :: ws, s => by
    have h := State.storeAll_eq ws (s.writeU8 a v)
    have e := s.writeU8_eq a v
    show (s.writeU8 a v).storeAll ws = { s with bus := ((s.writeU8 a v).storeAll ws).bus }
    rw [h]
    simp

@[simp] theorem State.storeAll_regs (s : State) (ws : List (Word × Byte)) : (s.storeAll ws).regs = s.regs := by
  rw [State.storeAll_eq]
@[simp] theorem State.storeAll_sp (s : State) (ws : List (Word × Byte)) : (s.storeAll ws).sp = s.sp := by
  rw [State.storeAll_eq]
@[simp] theorem State.storeAll_pc (s : State) (ws : List (Word × Byte)) : (s.storeAll ws).pc = s.pc := by
  rw [State.storeAll_eq]
@[simp] theorem State.storeAll_ime (s : State) (ws : List (Word × Byte)) : (s.storeAll ws).ime = s.ime := by
  rw [State.storeAll_eq]
@[simp] theorem State.storeAll_halted (s : State) (ws : List (Word × Byte)) : (s.storeAll ws).halted = s.halted := by
  rw [State.storeAll_eq]
@[simp] theorem State.storeAll_fault (s : State) (ws : List (Word × Byte)) : (s.storeAll ws).fault = s.fault := by
  rw [State.storeAll_eq]
@[simp] theorem State.storeAll_skip (s : State) (ws : List (Word × Byte)) : (s.storeAll ws).skip = s.skip := by
  rw [State.storeAll_eq]
@[simp] theorem State.storeAll_cycles (s : State) (ws : List (Word × Byte)) : (s.storeAll ws).cycles = s.cycles := by
  rw [State.storeAll_eq]
@[simp] theorem State.storeAll_ppu (s : State) (ws : List (Word × Byte)) : (s.storeAll ws).ppu = s.ppu := by
  rw [State.storeAll_eq]
@[simp] theorem State.storeAll_frameCycles (s : State) (ws : List (Word × Byte)) :
    (s.storeAll ws).frameCycles = s.frameCycles := by
  rw [State.storeAll_eq]
@[simp] theorem State.storeAll_config (s : State) (ws : List (Word × Byte)) : (s.storeAll ws).config = s.config := by
  rw [State.storeAll_eq]

/-- A store commutes with setting the cycle count. -/
theorem State.writeU8_begin (s : State) (c : Nat) (a : Word) (v : Byte) :
    (s.begin c).writeU8 a v = (s.writeU8 a v).begin c := by
  rw [State.writeU8_eq (s.begin c), State.writeU8_eq s, State.writeU8_bus_of s (s.begin c) rfl rfl]; rfl

/-- A store as the whole of a rule. -/
theorem State.writeU8_done (s : State) (c len : Nat) (a : Word) (v : Byte) :
    ((s.begin c).writeU8 a v).advance len = (s.writeU8 a v).done len c := by
  rw [State.writeU8_begin]; rfl

/-- A push is its two stores and SP - 2 (rule R61). -/
theorem State.push16_eq (s : State) (v : Word) : s.push16 v = { s.storeAll (s.pushed v) with sp := s.sp - 2 } := by
  apply State.ext_fields <;> simp [State.push16_bus]
  exact sub_one_sub_one s.sp

theorem State.push16_begin (s : State) (c : Nat) (v : Word) : (s.begin c).push16 v = (s.push16 v).begin c := by
  have h : (s.begin c).bus = s.bus := rfl
  apply State.ext_fields <;> simp
  rw [State.push16_bus, State.push16_bus]
  exact State.storeAll_bus_of s (s.begin c) rfl rfl _

theorem add_one_add_one (a : Word) : a + 1 + 1 = a + 2 := by bv_omega

/-- A pop moves SP by 2 (rule R62). -/
theorem State.popped_eq (s : State) : s.popped = { s with sp := s.sp + 2 } := by
  show { s with sp := s.sp + 1 + 1 } = _; rw [add_one_add_one]

/-- The high page is an addition (rule R73). -/
theorem highPage_eq (n : Byte) : highPage n = 0xFF00#16 + n.setWidth 16 := by
  revert n; decide +kernel

end Sys2Proof.Machine
end

