-- ==== Sys2Proof/Laws/Alu.lean ====
section
/-! SUPPORT. The flag-writing operations, each as one update of the register file. -/

namespace Sys2Proof.Machine

/-- The register file after an ALU operation: the result in A unless the operation is CP, and the four flags (rule
R122). -/
theorem State.aluApply_eq (s : State) (op : AluOp) (v : Byte) :
    s.aluApply op v =
      { s with
        regs :=
          let o := aluEval op s.regs.a v (flagC s.regs.f)
          (if aluWritesA op then { s.regs with a := o.value } else s.regs).flags o.z o.n o.h o.c } := by
  have h : ∀ (rf : RegFile) (z n h c : Bool), rf.flags z n h c = { rf with f := putZNHC z n h c rf.f } := by
    intro rf z n h c; rw [RegFile.flags, putZNHC_eq]
  cases op <;> (simp only [h]; rfl)

/-- Writing the four flags is the register file's flag update. -/
theorem State.putFlags_eq (s : State) (z n h c : Bool) :
    s.putFlags z n h c = { s with regs := s.regs.flags z n h c } := by
  rw [RegFile.flags, ← putZNHC_eq]; rfl

/-- Writing Z, N and Hf keeps Cf. -/
theorem State.putZNH_flags (s : State) (z n h : Bool) :
    s.putZNH z n h = { s with regs := s.regs.flags z n h (flagC s.regs.f) } := by
  rw [RegFile.flags, ← putZNH_eq]; rfl

/-- Writing N, Hf and Cf keeps Z. -/
theorem State.putNHC_flags (s : State) (n h c : Bool) :
    s.putNHC n h c = { s with regs := s.regs.flags (flagZ s.regs.f) n h c } := by
  rw [RegFile.flags, ← putNHC_eq]; rfl

/-- A register file's flag update leaves the general registers alone. -/
theorem RegFile.flags_get (rf : RegFile) (z n h c : Bool) (r : Reg8) : (rf.flags z n h c).get r = rf.get r := by
  cases r <;> rfl

/-- A register write and a flag update commute. -/
theorem RegFile.flags_put (rf : RegFile) (z n h c : Bool) (r : Reg8) (v : Byte) :
    (rf.flags z n h c).put r v = (rf.put r v).flags z n h c := by
  cases r <;> rfl

/-- What each flag reads as in a flag byte (rule R20). -/
theorem flagByte_flags (z n h c : Bool) (f : Byte) :
    flagZ (flagByte z n h c ||| (f &&& 0x0F#8)) = z ∧ flagN (flagByte z n h c ||| (f &&& 0x0F#8)) = n ∧
      flagH (flagByte z n h c ||| (f &&& 0x0F#8)) = h ∧ flagC (flagByte z n h c ||| (f &&& 0x0F#8)) = c := by
  revert z n h c f; decide +kernel

end Sys2Proof.Machine
end

