-- ==== Sys2Proof/Laws/Step.lean ====
section
/-! SUPPORT. What one system step can do, said once, and what the frame driver does at its ends. -/

namespace Sys2Proof.Machine

@[simp] theorem SystemOut.outcome_ok (c : Nat) (t : State) : (SystemOut.ok c t).outcome = .next t := rfl
@[simp] theorem SystemOut.outcome_fault (e : Fault) (t : State) : (SystemOut.fault e t).outcome = .fault e := rfl
@[simp] theorem SystemOut.outcome_refused (r : Refusal) (t : State) : (SystemOut.refused r t).outcome = .refused r := rfl

theorem State.finishStep_none {t : State} (h : t.fault = none) : t.finishStep = .ok t.cycles (t.elapse t.cycles) := by
  unfold State.finishStep; rw [h]

theorem State.finishStep_some {t : State} {e : Fault} (h : t.fault = some e) : t.finishStep = .fault e t := by
  unfold State.finishStep; rw [h]

/-- A system step reports a recorded fault again (rule R245), idles while halted (rule R201), completes the instruction
at PC and lets its T-cycles elapse, or raises that instruction's error and changes nothing but `fault` (rules R230,
R244). -/
theorem systemStep_cases (s : State) :
    (∃ e, s.fault = some e ∧ systemStep s = .fault e s) ∨
    (s.fault = none ∧ s.halted = true ∧ systemStep s = .ok 4 (s.haltIdle.elapse 4)) ∨
    (s.fault = none ∧ s.halted = false ∧ ∃ t, exec s.fetched s = .next t ∧ CpuEffect s t (s.stores s.fetched) ∧
      systemStep s = .ok t.cycles (t.elapse t.cycles)) ∨
    (s.fault = none ∧ s.halted = false ∧ ∃ e, exec s.fetched s = .next (s.raise e) ∧
      systemStep s = .fault e (s.raise e)) := by
  unfold systemStep cpuStep
  cases hf : s.fault with
  | some e => exact .inl ⟨e, rfl, rfl⟩
  | none =>
    cases hh : s.halted with
    | true => exact .inr (.inl ⟨rfl, rfl, State.finishStep_none (t := s.haltIdle) hf⟩)
    | false =>
      rcases exec_effect s.fetched s with ⟨t, e1, e2⟩ | ⟨e, e1⟩
      · refine .inr (.inr (.inl ⟨rfl, rfl, t, e1, e2, ?_⟩))
        rw [if_neg Bool.false_ne_true, e1]
        exact State.finishStep_none (e2.fault.trans hf)
      · refine .inr (.inr (.inr ⟨rfl, rfl, e, e1, ?_⟩))
        rw [if_neg Bool.false_ne_true, e1]
        exact State.finishStep_some rfl

/-- A system step answers a next state exactly when it returns a cycle count (rule R230). -/
theorem step_eq_next {s t : State} : step s = .next t ↔ ∃ c, systemStep s = .ok c t := by
  unfold step
  cases systemStep s with
  | ok c u => simp [Host.Outcome.next.injEq]
  | fault e u => simp
  | refused r u => simp

/-- The step answers a fault exactly when the system step returns it (rule R230). -/
theorem step_eq_fault {s : State} {e : Fault} : step s = .fault e ↔ ∃ t, systemStep s = .fault e t := by
  unfold step
  cases systemStep s with
  | ok c u => simp
  | fault x u => simp [Host.Outcome.fault.injEq]
  | refused r u => simp

/-- While a fault is recorded the frame driver does nothing and reports it (rule R245). -/
theorem runFrame_faulted {s : State} {e : Fault} (h : s.fault = some e) : runFrame s = .fault e s := by
  unfold runFrame; rw [h]

/-- Without a recorded fault the frame driver is its loop (rule R231). -/
theorem runFrame_running {s : State} (h : s.fault = none) : runFrame s = runFrameFor Config.frameCycles s := by
  unfold runFrame; rw [h]

end Sys2Proof.Machine
end

