-- ==== Sys2Proof/Tests/Slice0.lean ====
section
/-! SUPPORT. Tests on small states. The expected results are those of spec/95_test_vectors.md (each docstring names the
section and row) or the worked examples of the rules; the words are written out from spec/30_encoding.md. The last part
holds, for each statement with hypotheses, a concrete state and operands that meet them. -/

namespace Sys2Proof.Tests

open Sys2Proof Sys2Proof.Machine

-- The tests are evaluated one after another: many kernel evaluations waiting at once take a thread each.
set_option Elab.async false

/-! ### WellFormed -/

/-- The prefix byte's row is no instruction of its own (rule R205). -/
theorem test_wf_refuses_the_prefix_row : Instr.wf (.prefixCb 0x7C) = false := by decide

theorem test_wf_refuses_the_prefix_row_of_any_byte : Instr.wf (.prefixCb 0xCB) = false := by decide

theorem test_wf_admits_the_prefixed_entry : Instr.wf .bit7H = true := by decide

/-! ### Decoding: words written out from 30_encoding.md -/

/-- `00 yyy 110 nnnnnnnn`, y = 3: LD E,n8. -/
theorem test_decode_load8 : decode [0b00011110#8, 0xA5#8] = .instr (.ldEN8 0xA5#8) [] := by decide +kernel

/-- `00 001 000 llllllll hhhhhhhh`: LD [a16],SP. -/
theorem test_decode_load16 : decode [0b00001000#8, 0x80#8, 0xC0#8] = .instr (.ldAtA16Sp 0xC080#16) [] := by
  decide +kernel

/-- `10 011 110`: SBC A,[HL]. -/
theorem test_decode_alu8 : decode [0b10011110#8] = .instr .sbcAAtHl [] := by decide +kernel

/-- `00 pp 1011`, p = 2: DEC HL. -/
theorem test_decode_alu16 : decode [0b00101011#8] = .instr .decHl [] := by decide +kernel

/-- `0xCB`, `00 101 100`: SRA H. -/
theorem test_decode_rotate : decode [0xCB#8, 0b00101100#8] = .instr .sraH [] := by decide +kernel

/-- `0xCB`, `11 bbb zzz`, b = 1, z = 3: the prefix does not chain (rule R79). -/
theorem test_decode_bit : decode [0xCB#8, 0b11001011#8] = .instr .set1E [] := by decide +kernel

/-- `11 011 100 llllllll hhhhhhhh`: CALL C,a16. -/
theorem test_decode_control_flow : decode [0b11011100#8, 0x34#8, 0x12#8] = .instr (.callCA16 0x1234#16) [] := by
  decide +kernel

/-- `00 010 000 nnnnnnnn`: STOP keeps its second byte. -/
theorem test_decode_system : decode [0b00010000#8, 0x99#8] = .instr (.stop 0x99#8) [] := by decide +kernel

/-- An instruction cut short is rejected by name. -/
theorem test_decode_rejects_short_bytes :
    decode [0xC3#8, 0x50#8] = .missingBytes 0xC3 ∧ decode [0xCB#8] = .missingBytes 0xCB ∧ decode [] = .noBytes := by decide +kernel

/-- The table's numbering: a CB row has its prefix in bits 15 to 8, any other row its first byte in bits 7 to 0. -/
theorem test_decode_table_word :
    decodeTableWord 8 0x78 = some .ldAB ∧ decodeTableWord 16 0xCB7C = some .bit7H ∧
      decodeTableWord 24 0x1234C3 = some (.jpA16 0x1234#16) ∧ decodeTableWord 8 0x3E = some (.ldAN8 0x00#8) := by
  decide +kernel

/-- An instruction placed at the fetch is the one the next step runs: LD A,n8 of 95_test_vectors.md P5. -/
theorem test_withFetchWord :
    (match step (State.reset.withFetchWord 16 0x913E) with
      | .next t => some (t.regs.a, t.pc, t.cycles)
      | _ => none) = some (0x91, 0x0002, 8) := by decide +kernel

/-! ### One CPU step (95_test_vectors.md section 2) -/

/-- The start state of 95_test_vectors.md section 0, with an instruction's bytes at 0xC800 and other bytes in memory. -/
def start (bs : List Byte) (mem : List (Word × Byte)) : State :=
  { State.reset with pc := 0xC800 }.pokeAll
    (mem ++ (List.range bs.length).map fun i => (0xC800#16 + BitVec.ofNat 16 i, bs.getD i 0))

/-- The start state with registers and SP. -/
def startWith (bs : List Byte) (mem : List (Word × Byte)) (rf : RegFile) (sp : Word) : State :=
  { start bs mem with regs := rf, sp := sp }

/-- A register file with zeros in the registers a test does not name. -/
def regs0 : RegFile := { a := 0, b := 0, c := 0, d := 0, e := 0, f := 0, h := 0, l := 0 }

/-- One CPU step: what `f` reports of the next state. -/
def after {α : Type} (s : State) (f : State → α) : Option α :=
  match cpuStep s with
  | .next t => some (f t)
  | _ => none

/-- 2.1 row 5: LD H,[HL] reads at the old HL. -/
theorem test_ldHAtHl :
    after (startWith [0x66] [(0xC012, 0xD0)] { regs0 with h := 0xC0, l := 0x12 } 0)
      (fun t => (t.regs.h, t.regs.l, t.pc, t.cycles)) = some (0xD0, 0x12, 0xC801, 8) := by decide +kernel

/-- 2.1 row 10: a ROM write is ignored. -/
theorem test_ldAtHlB_rom :
    after (startWith [0x70] [] { regs0 with b := 0x99, h := 0x12, l := 0x34 } 0)
      (fun t => (t.readU8 0x1234, t.bus.romBank, t.pc)) = some (0xFF, 1, 0xC801) := by decide +kernel

/-- 2.1 row 17: LD A,[HL+] at 0xFFFF reads IE and wraps HL. -/
theorem test_ldAAtHlInc_wraps :
    after (startWith [0x2A] [(0xFFFF, 0x1F)] { regs0 with h := 0xFF, l := 0xFF } 0)
      (fun t => (t.regs.a, t.regs.h, t.regs.l, t.cycles)) = some (0x1F, 0x00, 0x00, 8) := by decide +kernel

/-- 2.1 row 20: LD [HL-],A at 0x0000 wraps HL. -/
theorem test_ldAtHlDecA_wraps :
    after (startWith [0x32] [] { regs0 with a := 0xAB } 0) (fun t => (t.regs.h, t.regs.l, t.readU8 0x0000)) =
      some (0xFF, 0xFF, 0x00) := by decide +kernel

/-- 2.1 row 25 and 2.10 row 3: a store to DIV resets the counter, and the step's cycles are added after it. -/
theorem test_ldhAtA8A_div :
    (match step { (start [0xE0, 0x04] []) with bus := { (start [0xE0, 0x04] []).bus with divCounter := 0xABCD } } with
      | .next t => some (t.bus.divCounter, t.pc, t.frameCycles)
      | _ => none) = some (0x000C, 0xC802, 12) := by decide +kernel

/-- 2.1 row 23: a store to 0xFF50 unmaps the boot ROM. -/
theorem test_ldAtA16A_unmaps :
    after (startWith [0xEA, 0x50, 0xFF] [] { regs0 with a := 0x01 } 0)
      (fun t => (t.bus.bootRomMapped, t.readU8 0xFF50, t.readU8 0x0000, t.cycles)) = some (false, 0x01, 0xFF, 16) := by
  decide +kernel

/-- 2.2 row 4: LD [0xFFFF],SP puts the low byte in IE and loses the high byte in ROM. -/
theorem test_ldAtA16Sp_wraps :
    after (startWith [0x08, 0xFF, 0xFF] [] regs0 0x1234) (fun t => (t.bus.ie, t.readU8 0x0000, t.pc, t.cycles)) =
      some (0x34, 0x00, 0xC803, 20) := by decide +kernel

/-- 2.2 rows 7 and 8: the flags of LD HL,SP-1 are those of the unsigned low-byte add. -/
theorem test_ldHlSpE8 :
    after (startWith [0xF8, 0xFF] [] regs0 0x0000) (fun t => (t.regs.hl, t.regs.f)) = some (0xFFFF, 0x00) ∧
      after (startWith [0xF8, 0xFF] [] regs0 0x0001) (fun t => (t.regs.hl, t.regs.f)) = some (0x0000, 0x30) := by
  decide +kernel

/-- 2.2 row 10: PUSH BC. -/
theorem test_pushBc :
    after (startWith [0xC5] [] { regs0 with b := 0x12, c := 0x34 } 0xD000)
      (fun t => (t.sp, t.readU8 0xCFFF, t.readU8 0xCFFE, t.cycles)) = some (0xCFFE, 0x12, 0x34, 16) := by
  decide +kernel

/-- 2.2 row 15: POP AF masks F. -/
theorem test_popAf :
    after (startWith [0xF1] [(0xCFFE, 0xFF), (0xCFFF, 0x3C)] regs0 0xCFFE)
      (fun t => (t.regs.a, t.regs.f, t.sp, t.cycles)) = some (0x3C, 0xF0, 0xD000, 12) := by decide +kernel

/-- 2.3 row 1: ADD A,B. -/
theorem test_addAB :
    after (startWith [0x80] [] { regs0 with a := 0x3A, b := 0xC6 } 0) (fun t => (t.regs.a, t.regs.f, t.pc)) =
      some (0x00, 0xB0, 0xC801) := by decide +kernel

/-- 2.3 rows 7 and 8: ADC, with the carry-in alone carrying out and with the second application half-carrying. -/
theorem test_adcAB :
    after (startWith [0x88] [] { regs0 with a := 0xFF, f := 0x10 } 0) (fun t => (t.regs.a, t.regs.f)) =
        some (0x00, 0xB0) ∧
      after (startWith [0x88] [] { regs0 with a := 0x0E, b := 0x01, f := 0x10 } 0) (fun t => (t.regs.a, t.regs.f)) =
        some (0x10, 0x20) := by decide +kernel

/-- 2.3 row 14: SUB A,[HL]. -/
theorem test_subAAtHl :
    after (startWith [0x96] [(0xC000, 0x01)] { regs0 with h := 0xC0 } 0) (fun t => (t.regs.a, t.regs.f, t.cycles)) =
      some (0xFF, 0x70, 8) := by decide +kernel

/-- 2.3 rows 16 and 17: SBC, with the borrow-in alone borrowing and to 0. -/
theorem test_sbcAB :
    after (startWith [0x98] [] { regs0 with f := 0x10 } 0) (fun t => (t.regs.a, t.regs.f)) = some (0xFF, 0x70) ∧
      after (startWith [0x98] [] { regs0 with a := 0x10, b := 0x0F, f := 0x10 } 0) (fun t => (t.regs.a, t.regs.f)) =
        some (0x00, 0xE0) := by decide +kernel

/-- 2.3 row 20: AND A,B. -/
theorem test_andAB :
    after (startWith [0xA0] [] { regs0 with a := 0x5A, b := 0x3F, f := 0x10 } 0) (fun t => (t.regs.a, t.regs.f)) =
      some (0x1A, 0x20) := by decide +kernel

/-- 2.3 row 25: XOR A,0x0F. -/
theorem test_xorAN8 :
    after (startWith [0xEE, 0x0F] [] { regs0 with a := 0xFF } 0) (fun t => (t.regs.a, t.regs.f, t.pc)) =
      some (0xF0, 0x00, 0xC802) := by decide +kernel

/-- 2.3 row 27: OR A,[HL]. -/
theorem test_orAAtHl :
    after (startWith [0xB6] [(0xC000, 0x0F)] { regs0 with a := 0x5A, h := 0xC0 } 0) (fun t => (t.regs.a, t.regs.f)) =
      some (0x5F, 0x00) := by decide +kernel

/-- 2.3 row 30: CP A,[HL] keeps A. -/
theorem test_cpAAtHl :
    after (startWith [0xBE] [(0xC000, 0x40)] { regs0 with a := 0x3C, h := 0xC0 } 0) (fun t => (t.regs.a, t.regs.f)) =
      some (0x3C, 0x50) := by decide +kernel

/-- 2.3 row 33: INC B wraps and keeps the carry. -/
theorem test_incB :
    after (startWith [0x04] [] { regs0 with b := 0xFF, f := 0x10 } 0) (fun t => (t.regs.b, t.regs.f)) =
      some (0x00, 0xB0) := by decide +kernel

/-- 2.3 rows 36 and 37: DEC to 0, and DEC that wraps. -/
theorem test_decCD :
    after (startWith [0x0D] [] { regs0 with c := 0x01 } 0) (fun t => (t.regs.c, t.regs.f)) = some (0x00, 0xC0) ∧
      after (startWith [0x15] [] { regs0 with f := 0x10 } 0) (fun t => (t.regs.d, t.regs.f)) = some (0xFF, 0x70) := by
  decide +kernel

/-- 2.3 row 38: DEC [HL]. -/
theorem test_decAtHl :
    after (startWith [0x35] [] { regs0 with h := 0xC0 } 0) (fun t => (t.readU8 0xC000, t.regs.f, t.cycles)) =
      some (0xFF, 0x60, 12) := by decide +kernel

/-- 2.3 rows 41 and 43: DAA after an addition with both carries and after a subtraction with a borrow. -/
theorem test_daa :
    after (startWith [0x27] [] { regs0 with f := 0x30 } 0) (fun t => (t.regs.a, t.regs.f)) = some (0x66, 0x10) ∧
      after (startWith [0x27] [] { regs0 with a := 0xA0, f := 0x50 } 0) (fun t => (t.regs.a, t.regs.f)) =
        some (0x40, 0x50) := by decide +kernel

/-- 2.3 row 45: CPL keeps Z and Cf. -/
theorem test_cpl :
    after (startWith [0x2F] [] { regs0 with a := 0x35, f := 0x90 } 0) (fun t => (t.regs.a, t.regs.f)) =
      some (0xCA, 0xF0) := by decide +kernel

/-- 2.3 rows 46 and 47: SCF and CCF keep Z. -/
theorem test_scf_ccf :
    after (startWith [0x37] [] { regs0 with f := 0xE0 } 0) (fun t => t.regs.f) = some 0x90 ∧
      after (startWith [0x3F] [] { regs0 with f := 0xF0 } 0) (fun t => t.regs.f) = some 0x80 := by decide +kernel

/-- 2.4 row 1: INC BC wraps and keeps the flags. -/
theorem test_incBc :
    after (startWith [0x03] [] { regs0 with b := 0xFF, c := 0xFF, f := 0xA0 } 0)
      (fun t => (t.regs.bc, t.regs.f, t.cycles)) = some (0x0000, 0xA0, 8) := by decide +kernel

/-- 2.4 rows 5 and 6: ADD HL,BC carries out of bit 11 and keeps Z; ADD HL,HL to 0 leaves Z clear. -/
theorem test_addHl :
    after (startWith [0x09] [] { regs0 with h := 0x0F, l := 0xFF, c := 0x01, f := 0x80 } 0)
        (fun t => (t.regs.hl, t.regs.f)) = some (0x1000, 0xA0) ∧
      after (startWith [0x29] [] { regs0 with h := 0x80, f := 0x40 } 0) (fun t => (t.regs.hl, t.regs.f)) =
        some (0x0000, 0x10) := by decide +kernel

/-- 2.4 row 10: ADD SP,-5. -/
theorem test_addSpE8 :
    after (startWith [0xE8, 0xFB] [] regs0 0x0005) (fun t => (t.sp, t.regs.f, t.cycles)) = some (0x0000, 0x30, 16) := by
  decide +kernel

/-- 2.5 rows 2 and 3: RLCA to 0 keeps Z under `preserve` and clears it under `clear`. -/
theorem test_rlca_z :
    after (startWith [0x07] [] { regs0 with f := 0x80 } 0) (fun t => t.regs.f) = some 0x80 ∧
      after { startWith [0x07] [] { regs0 with f := 0x80 } 0 with
          config := { Config.default with accRotateZ := .clear } } (fun t => t.regs.f) = some 0x00 := by
  decide +kernel

/-- 2.5 rows 6 and 8: RLA and RRA through the carry. -/
theorem test_rla_rra :
    after (startWith [0x17] [] { regs0 with a := 0x95, f := 0x10 } 0) (fun t => (t.regs.a, t.regs.f)) =
        some (0x2B, 0x10) ∧
      after (startWith [0x1F] [] { regs0 with a := 0x01, f := 0xD0 } 0) (fun t => (t.regs.a, t.regs.f)) =
        some (0x80, 0x90) := by decide +kernel

/-- 2.5 rows 11 and 17: RLC [HL] and RR [HL]. -/
theorem test_rlcAtHl_rrAtHl :
    after (startWith [0xCB, 0x06] [(0xC000, 0x81)] { regs0 with h := 0xC0 } 0)
        (fun t => (t.readU8 0xC000, t.regs.f, t.cycles)) = some (0x03, 0x10, 16) ∧
      after (startWith [0xCB, 0x1E] [(0xC000, 0x8A)] { regs0 with h := 0xC0, f := 0x10 } 0)
        (fun t => (t.readU8 0xC000, t.regs.f)) = some (0xC5, 0x00) := by decide +kernel

/-- 2.5 rows 20 and 22: SRA H keeps the sign bit; SWAP A clears the carry. -/
theorem test_sraH_swapA :
    after (startWith [0xCB, 0x2C] [] { regs0 with h := 0x81 } 0) (fun t => (t.regs.h, t.regs.f)) = some (0xC0, 0x10) ∧
      after (startWith [0xCB, 0x37] [] { regs0 with a := 0xF1, f := 0x70 } 0) (fun t => (t.regs.a, t.regs.f)) =
        some (0x1F, 0x00) := by decide +kernel

/-- 2.5 rows 27 and 29: BIT 7,H and BIT 3,[HL]. -/
theorem test_bit :
    after (startWith [0xCB, 0x7C] [] { regs0 with h := 0x7F, f := 0x10 } 0) (fun t => (t.regs.f, t.cycles)) =
        some (0xB0, 8) ∧
      after (startWith [0xCB, 0x5E] [(0xC000, 0xF7)] { regs0 with h := 0xC0 } 0) (fun t => (t.regs.f, t.cycles)) =
        some (0xA0, 12) := by decide +kernel

/-- 2.5 rows 30 and 34: RES 0,A keeps the flags; SET 0,[HL] at 0x2000 selects bank 31. -/
theorem test_res_set :
    after (startWith [0xCB, 0x87] [] { regs0 with a := 0xFF, f := 0xF0 } 0) (fun t => (t.regs.a, t.regs.f)) =
        some (0xFE, 0xF0) ∧
      after (startWith [0xCB, 0xC6] [] { regs0 with h := 0x20 } 0) (fun t => t.bus.romBank) = some 31 := by
  decide +kernel

/-- 2.6 rows 3 and 6: JR -128 and JR NZ not taken. -/
theorem test_jr :
    after (start [0x18, 0x80] []) (fun t => (t.pc, t.cycles)) = some (0xC782, 12) ∧
      after (startWith [0x20, 0x04] [] { regs0 with f := 0x80 } 0) (fun t => (t.pc, t.cycles)) = some (0xC802, 8) := by
  decide +kernel

/-- 2.6 rows 10 and 11: JP NC taken and JP HL. -/
theorem test_jp :
    after (start [0xD2, 0x50, 0x01] []) (fun t => (t.pc, t.cycles)) = some (0x0150, 16) ∧
      after (startWith [0xE9] [] { regs0 with h := 0x40 } 0) (fun t => (t.pc, t.cycles)) = some (0x4000, 4) := by
  decide +kernel

/-- JP and CALL take `AddressU16` = `imm16` (R190, R193), which yields an address and not a word (R85). -/
theorem test_absolute_target_mode :
    [(descriptor (.jpA16 0x0150)).left, (descriptor (.callCA16 0x0150)).left] = [.addressU16, .addressU16] ∧
      State.reset.getData 0x50 0x0150 (descriptor (.jpA16 0x0150)).left = .address 0x0150 := by decide +kernel

/-- 2.6 rows 12 and 13: CALL and CALL NZ not taken. -/
theorem test_call :
    after (startWith [0xCD, 0x34, 0x12] [] regs0 0xD000)
        (fun t => (t.pc, t.sp, t.readU8 0xCFFF, t.readU8 0xCFFE, t.cycles)) =
        some (0x1234, 0xCFFE, 0xC8, 0x03, 24) ∧
      after (startWith [0xC4, 0x34, 0x12] [] { regs0 with f := 0x80 } 0xD000)
        (fun t => (t.pc, t.sp, t.readU8 0xCFFF, t.cycles)) = some (0xC803, 0xD000, 0x00, 12) := by decide +kernel

/-- 2.6 row 15: RST 0x38. -/
theorem test_rst38 :
    after (startWith [0xFF] [] regs0 0xD000) (fun t => (t.pc, t.sp, t.readU8 0xCFFE)) = some (0x0038, 0xCFFE, 0x01) := by
  decide +kernel

/-- 2.6 rows 18 and 19: RET Z taken and RET NC not taken. -/
theorem test_ret_conditional :
    after (startWith [0xC8] [(0xCFFE, 0x03), (0xCFFF, 0xC8)] { regs0 with f := 0x80 } 0xCFFE)
        (fun t => (t.pc, t.sp, t.cycles)) = some (0xC803, 0xD000, 20) ∧
      after (startWith [0xD0] [(0xCFFE, 0x03), (0xCFFF, 0xC8)] { regs0 with f := 0x10 } 0xCFFE)
        (fun t => (t.pc, t.sp, t.cycles)) = some (0xC801, 0xCFFE, 8) := by decide +kernel

/-- 2.6 row 20: RETI sets IME and not IE. -/
theorem test_reti :
    after (startWith [0xD9] [(0xCFFE, 0x03), (0xCFFF, 0xC8)] regs0 0xCFFE)
      (fun t => (t.pc, t.sp, t.ime, t.bus.ie)) = some (0xC803, 0xD000, true, 0x00) := by decide +kernel

/-- 2.7 row 3: a halted step idles. -/
theorem test_halted :
    after { start [0x3C] [] with halted := true } (fun t => (t.regs.a, t.pc, t.halted, t.cycles)) =
      some (0x00, 0xC800, true, 4) := by decide +kernel

/-- 2.7 rows 4 and 5: STOP faults by default and halts under `halt_like`. -/
theorem test_stop :
    after (start [0x10, 0x00] []) (fun t => (t.fault, t.pc)) =
        some (some (.opcodeNotImplemented 0x10 false), 0xC800) ∧
      after { start [0x10, 0x00] [] with config := { Config.default with stopBehaviour := .haltLike } }
        (fun t => (t.fault, t.pc, t.halted, t.cycles)) = some (none, 0xC802, true, 4) := by decide +kernel

/-- 2.7 row 8: a prefix at 0xFFFF takes its second byte from 0x0000. -/
theorem test_prefix_wraps :
    after { (start [] [(0xFFFF, 0xCB), (0x0000, 0x7C)]) with pc := 0xFFFF, regs := { regs0 with h := 0x80 } }
      (fun t => (t.regs.f, t.pc, t.cycles)) = some (0x20, 0x0001, 8) := by decide +kernel

/-- 2.7 row 9 and 2.10: the fault of 0xD3, returned by the step that fetches it; the timer stands still, and the next step
reports the fault. -/
theorem test_undefinedD3 :
    (match systemStep (start [0xD3] []) with
      | .fault e t => some (e, t.fault, t.bus.divCounter, t.pc, decide (systemStep t = .fault e t))
      | _ => none) =
      some (.unrecognizedOpcode 0xD3 false, some (.unrecognizedOpcode 0xD3 false), 0x0000, 0xC800, true) := by
  decide +kernel

/-- R245: the frame driver reports a recorded fault, even with a whole frame's cycles on its counter. -/
theorem test_runFrame_faulted :
    runFrame { State.reset with fault := some (.unrecognizedOpcode 0xD3 false), frameCycles := 70224 } =
      .fault (.unrecognizedOpcode 0xD3 false)
        { State.reset with fault := some (.unrecognizedOpcode 0xD3 false), frameCycles := 70224 } := by decide +kernel

/-! ### The bus, the pixel pipeline, the host -/

/-- 2.8: three banks of a byte each, a boot byte, and the writes of rows 1, 2, 4, 6, 8 and 12. -/
def banked : State :=
  let s := State.build { Setup.default with config := { Config.default with romBankCount := 3 }, bootRom := [0xB0] }
  { s with bus := { s.bus with rom := [(0, 0x11), (0x100, 0x11), (0x4000, 0x22), (0x8000, 0x33)] } }

theorem test_bus_overlay :
    (banked.readU8 0x0000, banked.readU8 0x0100, (banked.writeU8 0xFF50 0x00).readU8 0x0000) = (0xB0, 0x11, 0x11) := by
  decide +kernel

theorem test_bus_banks :
    (banked.readU8 0x4000, (banked.writeU8 0x2000 0x02).readU8 0x4000, (banked.writeU8 0x2ABC 0xE3).readU8 0x4000,
      ((banked.writeU8 0x1FFF 0x05).writeU8 0x4000 0x05).readU8 0x4000) = (0x22, 0x33, 0x11, 0x22) := by
  decide +kernel

theorem test_bus_stat_and_word :
    ((banked.writeU8 0xFF41 0xFF).readU8 0xFF41, (banked.writeU8 0xFFFF 0x34).readU16 0xFFFF) = (0xFA, 0xB034) := by
  decide +kernel

/-- The display on, from reset: LCDC = 0x91 (1.8's set-up: every map entry 1, tile 1 with rows 0x0F and 0x33). -/
def display : State :=
  let s := State.reset
  { s with
    bus := { s.bus with
      io := [(0x40, 0x91), (0x41, 0x02)]
      vram :=
        ((List.range 16).map fun i => (0x10 + i, if i % 2 = 0 then 0x0F else 0x33)) ++
          ((List.range 40).map fun i => (0x1800 + i, 0x01)) } }

/-- 2.9: the first four fetcher steps of line 0 and the first push, at cycles 82, 84, 86 and 88. -/
theorem test_fetcher :
    ((display.updateGraphics 82).ppu.tileNumber, (display.updateGraphics 84).ppu.tileLo,
      (display.updateGraphics 86).ppu.tileHi, (display.updateGraphics 87).ppu.fifo.length,
      (display.updateGraphics 88).ppu.fifo.length) = (0x01, 0x0F, 0x33, 0, 7) := by decide +kernel

/-- 1.8: the first eight pixels of a line without discard. -/
theorem test_first_pixels :
    ((List.range 8).map fun x => ((display.updateGraphics 95).pixel 0 x).packed) = [0, 0, 2, 2, 1, 1, 3, 3] := by
  decide +kernel

/-- The machine of 2.11, with IME, IE and `halted`. -/
def asked (ime halted : Bool) (ie flags : Byte) : State :=
  let s := { State.reset with
    config := { Config.default with interruptsModelled := true }, pc := 0xC800, sp := 0xD000, ime := ime, halted := halted }
  (s.poke 0xFFFF ie).poke 0xFF0F flags

/-- 2.11 row 4: source 1 beats pending source 4. -/
theorem test_dispatch_priority :
    ((asked true false 0x1F 0x10).dispatchInterrupt 1).map
      (fun t => (t.pc, t.sp, t.ime, t.readU8 0xFF0F, t.bus.divCounter, t.readU8 0xCFFF)) =
      some (0x0048, 0xCFFE, false, 0x10, 0x0014, 0xC8) := by decide +kernel

/-- 2.11 rows 2 and 3: woken and not dispatched; not enabled, so still halted. -/
theorem test_dispatch_wakes :
    ((asked false true 0x04 0x00).dispatchInterrupt 2).map (fun t => (t.pc, t.readU8 0xFF0F, t.halted)) =
        some (0xC800, 0x04, false) ∧
      ((asked true true 0x00 0x00).dispatchInterrupt 1).map (fun t => (t.pc, t.readU8 0xFF0F, t.halted)) =
        some (0xC800, 0x02, true) := by decide +kernel

/-- R240, R245: `wake` ends a halt, and does nothing under a fault. -/
theorem test_wake :
    ({ State.reset with halted := true }.wake).halted = false ∧
      ({ State.reset with halted := true, fault := some (.opcodeError "") }.wake).halted = true := by decide +kernel

/-- R56: the range read and its bounds. -/
theorem test_getRange :
    State.reset.getRange 0xFF41 0xFF43 = some [0x02, 0x00] ∧ State.reset.getRange 5 4 = none ∧
      State.reset.getRange 0xFFFF 0x10001 = none := by decide +kernel

/-! ### Witnesses: states and operands that meet the hypotheses of the statements -/

/-- Reset storage is in canonical form. -/
theorem reset_sound : State.reset.bus.Sound State.reset.config.romBankCount :=
  ⟨by decide, by decide, by decide, by decide, by decide, by decide, by decide, by decide, by decide⟩

/-- The stack of 2.2 row 10, for PushThenPop; the boundary addresses that keep a byte are checked with it. -/
theorem witness_PushThenPop :
    ({ State.reset with sp := 0xD000 } : State).bus.Sound State.reset.config.romBankCount ∧
      keepsStackByte (0xD000#16 - 1) ∧ keepsStackByte (0xD000#16 - 2) ∧ keepsStackByte 0x8000#16 ∧
      keepsStackByte 0xFFFF#16 ∧ ¬keepsStackByte 0x7FFF#16 ∧ ¬keepsStackByte 0xFEA0#16 := by
  refine ⟨reset_sound, ?_⟩
  unfold keepsStackByte
  decide

/-- 45 and 38, the example of rule R151, for DecimalArithmeticIsExact. -/
theorem witness_DecimalArithmeticIsExact :
    (45 : Nat) < 100 ∧ (38 : Nat) < 100 ∧ ({ State.reset with regs := { regs0 with a := 0x45 } } : State).regs.a = bcd 45 := by
  decide +kernel

/-- The first and the last undefined byte, fetched by a machine that can run, for UndefinedBytesFault. -/
theorem witness_UndefinedBytesFault :
    (0xD3#8 ∈ ([0xD3, 0xDB, 0xDD, 0xE3, 0xE4, 0xEB, 0xEC, 0xED, 0xF4, 0xFC, 0xFD] : List Byte)) ∧
      (0xFD#8 ∈ ([0xD3, 0xDB, 0xDD, 0xE3, 0xE4, 0xEB, 0xEC, 0xED, 0xF4, 0xFC, 0xFD] : List Byte)) ∧
      (start [0xD3] []).fault = none ∧ (start [0xD3] []).halted = false ∧
      (start [0xD3] []).readU8 (start [0xD3] []).pc = 0xD3 := by decide +kernel

/-- For DecodeOfEncode. -/
theorem witness_DecodeOfEncode : Instr.wf (.ldAtA16Sp 0xFFFF) = true ∧ Instr.wf (.stop 0xFF) = true := by decide

/-- A word load at 0xC800, for StepRunsDecodedInstruction and its clause of a completed instruction. -/
theorem witness_StepRunsDecodedInstruction :
    let s := start [0x31, 0xFE, 0xFF] []
    s.fault = none ∧ s.halted = false ∧
      decode [s.readU8 s.pc, s.readU8 (s.pc + 1), s.readU8 (s.pc + 2)] = .instr (.ldSpN16 0xFFFE#16) [] ∧
      after s State.fault = some none := by
  decide +kernel

/-- An undefined byte at 0xC800, for StepRunsDecodedInstruction's clause of a raised error. -/
theorem witness_StepRunsDecodedInstruction_raised :
    let s := start [0xFD] []
    s.fault = none ∧ s.halted = false ∧
      decode [s.readU8 s.pc, s.readU8 (s.pc + 1), s.readU8 (s.pc + 2)] = .instr .undefinedFD [0x00, 0x00] ∧
      after s State.fault = some (some (.unrecognizedOpcode 0xFD false)) := by
  decide +kernel

/-- One state for each clause of HaltedAndFaultedSteps. -/
theorem witness_HaltedAndFaultedSteps :
    ({ State.reset with fault := some (.unrecognizedOpcode 0xD3 false) } : State).fault =
        some (.unrecognizedOpcode 0xD3 false) ∧
      ({ State.reset with halted := true } : State).fault = none ∧
      ({ State.reset with halted := true } : State).halted = true := by decide

/-- A conditional transfer, taken and not taken, for CyclesFollowTheTable. -/
theorem witness_CyclesFollowTheTable :
    (descriptor (.callNzA16 0x1234)).cycles = some 12 ∧ State.reset.fault = none ∧
      (∃ t, exec (.callNzA16 0x1234) State.reset = .next t ∧ t.fault = none ∧ t.cycles = 24) ∧
      (∃ t, exec (.callZA16 0x1234) State.reset = .next t ∧ t.fault = none ∧ t.cycles = 12) :=
  ⟨rfl, rfl, ⟨_, rfl, rfl, rfl⟩, ⟨_, rfl, rfl, rfl⟩⟩

/-- EI and HALT write what they may, for WritersOfImeAndHalted. -/
theorem witness_WritersOfImeAndHalted :
    (∃ t, exec .ei State.reset = .next t ∧ t.ime ≠ State.reset.ime) ∧
      (∃ t, exec .halt State.reset = .next t ∧ t.halted ≠ State.reset.halted) :=
  ⟨⟨_, rfl, by decide⟩, ⟨_, rfl, by decide⟩⟩

/-- A step with the boot ROM unmapped, and one that faults, for UnmapIsForGood. -/
theorem witness_UnmapIsForGood :
    let s : State := { State.reset with bus := { State.reset.bus with bootRomMapped := false }, halted := true }
    let u : State := { s with fault := some (.unrecognizedOpcode 0xD3 false) }
    (∃ t, step s = .next t) ∧ s.bus.bootRomMapped = false ∧ (∃ e, systemStep u = .fault e u) ∧
      u.bus.bootRomMapped = false := ⟨⟨_, rfl⟩, rfl, ⟨_, rfl⟩, rfl⟩

/-- Where the addresses at the ends of every clause of ReadsByRegion read from, with the overlay mapped. -/
theorem witness_ReadsByRegion :
    (([0x0000, 0x00FF, 0x0100, 0x3FFF, 0x4000, 0x7FFF, 0x8000, 0x9FFF, 0xA000, 0xBFFF, 0xC000, 0xDFFF, 0xE000, 0xFDFF,
        0xFE00, 0xFE9F, 0xFEA0, 0xFEFF, 0xFF00, 0xFF03, 0xFF04, 0xFF05, 0xFF7F, 0xFF80, 0xFFFE, 0xFFFF] :
        List Word).map State.reset.slot) =
      [.bootRom 0, .bootRom 0xFF, .rom 0x100, .rom 0x3FFF, .rom 0x4000, .rom 0x7FFF, .vram 0, .vram 0x1FFF, .eram 0,
        .eram 0x1FFF, .wram 0, .wram 0x1FFF, .wram 0, .wram 0x1DFF, .oam 0, .oam 0x9F, .gap, .gap, .io 0, .io 3, .div,
        .io 5, .io 0x7F, .hram 0, .hram 0x7E, .ie] := by decide +kernel

/-- The clause of bank 0 with the overlay unmapped. -/
theorem witness_ReadsByRegion_unmapped :
    let s : State := { State.reset with bus := { State.reset.bus with bootRomMapped := false } }
    s.bus.bootRomMapped = false ∧ ([0x0000, 0x00FF] : List Word).map s.slot = [.rom 0, .rom 0xFF] := by decide +kernel

/-- What 0xA7 reads back as after a store at the ends of every clause of StoresByAddress. -/
theorem witness_StoresByAddress :
    State.reset.config.valid ∧ State.reset.bus.Sound State.reset.config.romBankCount ∧
      (([0x0000, 0x1FFF, 0x2000, 0x3FFF, 0x4000, 0x7FFF, 0x8000, 0xFE9F, 0xFEA0, 0xFEFF, 0xFF00, 0xFF04, 0xFF41, 0xFF44,
        0xFF50, 0xFF7F, 0xFF80, 0xFFFF] : List Word).map fun a => (State.reset.writeU8 a 0xA7).readU8 a) =
      [0x00, 0xFF, 0xFF, 0xFF, 0xFF, 0xFF, 0xA7, 0xA7, 0x00, 0x00, 0xA7, 0x00, 0xA2, 0x00, 0xA7, 0xA7, 0xA7, 0xA7] ∧
      State.reset.outside 0xC000 0xC001 := by
  refine ⟨by decide, reset_sound, by decide +kernel, ?_⟩
  unfold State.outside remaps
  decide +kernel

/-- The clause of StoresByAddress under `rom_writes_stick`, at its ends. -/
theorem witness_StoresByAddress_stick :
    let s : State := { State.reset with config := { Config.default with romWritesStick := true } }
    s.config.valid ∧ s.bus.Sound s.config.romBankCount ∧ s.config.romWritesStick = true ∧
      (([0x0000, 0x2000, 0x3FFF, 0x7FFF] : List Word).map fun a => ((s.writeU8 a 0xA7).readU8 a, (s.writeU8 a 0xA7).bus.romBank)) =
        [(0xA7, 1), (0xA7, 7), (0xA7, 7), (0xA7, 1)] :=
  ⟨by decide, reset_sound, rfl, by decide +kernel⟩

/-- The addresses at the ends of BankSelection's clauses. -/
theorem witness_BankSelection :
    0x4000 ≤ (0x4000#16).toNat ∧ (0x7FFF#16).toNat ≤ 0x7FFF ∧
      ¬(0x4000 ≤ (0x3FFF#16).toNat ∧ (0x3FFF#16).toNat ≤ 0x7FFF) ∧
      ¬(0x4000 ≤ (0x8000#16).toNat ∧ (0x8000#16).toNat ≤ 0x7FFF) := by decide

/-- A push and a register load, for MemoryFrame. -/
theorem witness_MemoryFrame :
    let s : State := { State.reset with sp := 0xD000 }
    s.config.valid ∧ s.bus.Sound s.config.romBankCount ∧ (∃ t, exec .pushBc s = .next t) ∧
      s.outsideAll (s.stores .pushBc) 0xC000 ∧ s.stores .ldAB = [] := by
  refine ⟨by decide, reset_sound, ⟨_, rfl⟩, ?_, rfl⟩
  unfold State.stores State.pushed State.outsideAll State.outsideAll State.outsideAll State.outside remaps
  decide +kernel

/-- NOP at reset's PC, for TimerFollowsTheCpu. -/
theorem witness_TimerFollowsTheCpu :
    State.reset.fault = none ∧ State.reset.halted = false ∧
      ∃ t, exec State.reset.fetched State.reset = .next t ∧ t.fault = none := ⟨rfl, rfl, ⟨_, rfl, rfl⟩⟩

/-- For DisplayOffIsNoOp. -/
theorem witness_DisplayOffIsNoOp : (State.reset.readU8 0xFF40#16).getLsbD 7 = false := by decide +kernel

/-- For PpuWritesOnlyItsOwn. -/
theorem witness_PpuWritesOnlyItsOwn : display.bus.Sound display.config.romBankCount :=
  ⟨by decide, by decide, by decide +kernel, by decide, by decide, by decide, by decide, by decide, by decide⟩

/-- The start of line 0 with the display on meets the invariant. -/
theorem display_inv : display.Inv := by
  refine ⟨by decide, by decide, rfl, witness_PpuWritesOnlyItsOwn, by decide, ?_, ?_, by decide⟩
  · show (display.io 0x44).toNat < 144
    decide
  · exact ⟨by decide, rfl, rfl, rfl, rfl⟩

/-- For VisibleLineTiming and RenderedLineIsBackground. -/
theorem witness_VisibleLineTiming :
    display.Inv ∧ display.lcdOn = true ∧ display.ppu.mode = .oamScan ∧ display.ppu.lineCycles = 0 :=
  ⟨display_inv, by decide +kernel, rfl, rfl⟩

/-- For FrameTiming. -/
theorem witness_FrameTiming :
    display.Inv ∧ display.lcdOn = true ∧ display.ppu.mode = .oamScan ∧ display.ppu.lineCycles = 0 ∧ display.ly = 0 :=
  ⟨display_inv, by decide +kernel, rfl, rfl, by decide +kernel⟩

/-- For RenderedLineIsBackground: the same state, and a row and a column outside the line. -/
theorem witness_RenderedLineIsBackground :
    display.Inv ∧ display.lcdOn = true ∧ display.ppu.mode = .oamScan ∧ display.ppu.lineCycles = 0 ∧
      (1 : Nat) ≠ display.ly.toNat ∧ (159 : Nat) < 160 :=
  ⟨display_inv, by decide +kernel, rfl, rfl, by decide +kernel, by decide⟩

/-- A state for each clause of InterruptDispatch. -/
theorem witness_InterruptDispatch :
    State.reset.config.interruptsModelled = false ∧
      (asked true false 0x1F 0x10).bus.Sound (asked true false 0x1F 0x10).config.romBankCount ∧
      (asked true false 0x1F 0x10).config.interruptsModelled = true ∧ (asked true false 0x1F 0x10).fault = none ∧
      (asked true false 0x1F 0x10).ime = true ∧ (asked false true 0x04 0x00).ime = false ∧
      (asked false true 0x04 0x00).bus.ie &&& ((asked false true 0x04 0x00).intFlags ||| byteOf (2 ^ 2)) &&& 0x1F#8 ≠ 0 ∧
      (asked true true 0x00 0x00).bus.ie &&& ((asked true true 0x00 0x00).intFlags ||| byteOf (2 ^ 1)) &&& 0x1F#8 = 0 ∧
      ((asked true false 0x1F 0x10).bus.ie &&& ((asked true false 0x1F 0x10).intFlags ||| byteOf (2 ^ 1)) &&& 0x1F#8).getLsbD 1 = true ∧
      (∀ i < 1, ((asked true false 0x1F 0x10).bus.ie &&& ((asked true false 0x1F 0x10).intFlags ||| byteOf (2 ^ 1)) &&& 0x1F#8).getLsbD i = false) ∧
      ({ asked true false 0x1F 0x10 with fault := some (.unrecognizedOpcode 0xD3 false) } : State).fault ≠ none :=
  ⟨rfl,
    ⟨by decide +kernel, by decide +kernel, by decide +kernel, by decide +kernel, by decide +kernel, by decide +kernel,
      by decide +kernel, by decide +kernel, by decide +kernel⟩,
    by decide +kernel, by decide +kernel, by decide +kernel, by decide +kernel, by decide +kernel, by decide +kernel,
    by decide +kernel, by decide +kernel, by decide +kernel⟩

/-- For FrameDriverEnds, at the lower and the upper end of the counter. -/
theorem witness_FrameDriverEnds :
    State.reset.frameCycles < 70224 ∧ State.reset.frameCycles % 4 = 0 ∧
      ({ State.reset with frameCycles := 70220 } : State).frameCycles < 70224 ∧
      ({ State.reset with frameCycles := 70220 } : State).frameCycles % 4 = 0 := by decide

/-- A golden state with a byte that is kept, an address in the gap and another slot, for LoadStateSetsTheGoldenState. -/
theorem witness_LoadStateSetsTheGoldenState :
    let g : Golden := { a := 1, b := 2, c := 3, d := 4, e := 5, f := 0xFF, h := 6, l := 7, sp := 8, pc := 9, mem := [(0xC000, 0x12)] }
    State.reset.config.valid ∧ State.reset.bus.Sound State.reset.config.romBankCount ∧ g.mem = [] ++ [(0xC000, 0x12)] ∧
      State.reset.slot 0xC000 ≠ .gap ∧ State.reset.slot 0xFEA0 = .gap ∧ Slot.rom 0x8000 ≠ State.reset.slot 0xC000 :=
  ⟨by decide, reset_sound, rfl, by decide +kernel, by decide +kernel, by decide +kernel⟩

/-- For BuildMeetsTheInvariant. -/
theorem witness_BuildMeetsTheInvariant : Setup.default.config.valid := by decide

/-- A state that meets the invariant and steps, and one that meets it and faults, for StepKeepsTheInvariant. -/
theorem witness_StepKeepsTheInvariant :
    let u : State := { display with fault := some (.unrecognizedOpcode 0xD3 false) }
    display.Inv ∧ (∃ t, step display = .next t) ∧ u.Inv ∧ ∃ e, systemStep u = .fault e u :=
  ⟨display_inv, ⟨_, rfl⟩,
    ⟨display_inv.config, display_inv.flags, display_inv.skip, display_inv.bus, display_inv.stat, display_inv.ly,
      display_inv.line, display_inv.frameBuffer⟩, ⟨_, rfl⟩⟩

end Sys2Proof.Tests
end

/-! PROOFS. The statements about the machine's state (10_state.md): what a step keeps, who writes the control bits, the
overlay flag and the register file. -/

namespace Sys2Proof.Machine

/-! ### The timer and the PPU leave the CPU alone -/

@[simp] theorem State.updateGraphics_regs : ∀ (n : Nat) (s : State), (s.updateGraphics n).regs = s.regs
  | 0, _ => rfl
  | n + 1, s => (State.updateGraphics_regs n s.ppuTick).trans s.ppuTick_regs

@[simp] theorem State.updateGraphics_skip : ∀ (n : Nat) (s : State), (s.updateGraphics n).skip = s.skip
  | 0, _ => rfl
  | n + 1, s => (State.updateGraphics_skip n s.ppuTick).trans s.ppuTick_skip

@[simp] theorem State.updateGraphics_config : ∀ (n : Nat) (s : State), (s.updateGraphics n).config = s.config
  | 0, _ => rfl
  | n + 1, s => (State.updateGraphics_config n s.ppuTick).trans s.ppuTick_config

@[simp] theorem State.elapse_regs (s : State) (c : Nat) : (s.elapse c).regs = s.regs := by simp [State.elapse]
@[simp] theorem State.elapse_skip (s : State) (c : Nat) : (s.elapse c).skip = s.skip := by simp [State.elapse]
@[simp] theorem State.elapse_config (s : State) (c : Nat) : (s.elapse c).config = s.config := by simp [State.elapse]

/-! ### The invariant -/

/-- The invariant is the PPU's part of it, F[3:0] = 0 and the clear skip signal. -/
theorem State.PpuSound.inv {s : State} (h : s.PpuSound) (hf : s.regs.f &&& 0x0F#8 = 0#8) (hk : s.skip = false) : s.Inv :=
  ⟨h.config, hf, hk, h.bus, h.stat, h.ly, h.line, h.frameBuffer⟩

/-- The PPU's part depends on the configuration, the storage, LY, STAT[1:0] and the PPU alone. -/
theorem State.PpuSound.congr {s t : State} (h : s.PpuSound) (hc : t.config = s.config)
    (hb : t.bus.Sound s.config.romBankCount) (hly : t.io 0x44 = s.io 0x44)
    (hst : t.stat &&& 0x03#8 = s.stat &&& 0x03#8) (hp : t.ppu = s.ppu) : t.PpuSound := by
  refine ⟨hc ▸ h.config, hc ▸ hb, ?_, ?_, hp ▸ h.line, hp ▸ h.frameBuffer⟩
  · rw [hst, hp]; exact h.stat
  · rw [hly, hp]; exact h.ly

theorem State.PpuSound.of_bus {s t : State} (h : s.PpuSound) (hc : t.config = s.config) (hb : t.bus = s.bus)
    (hp : t.ppu = s.ppu) : t.PpuSound :=
  h.congr hc (hb ▸ h.bus) (State.io_of_bus hb _) (by rw [State.stat, State.io_of_bus hb]; rfl) hp

/-- The timer keeps the PPU's part of the invariant: it writes the DIV counter alone (rule R253). -/
theorem State.advanceDiv_ppuSound {s : State} (h : s.PpuSound) (c : Nat) : (s.advanceDiv c).PpuSound := by
  obtain ⟨h1, h2, h3, h4, h5, h6, h7, h8, h9⟩ := h.bus
  exact h.congr rfl ⟨h1, h2, h3, h4, h5, h6, h7, h8, h9⟩ rfl rfl rfl

/-- The time that follows a CPU step keeps the invariant (rule R230). -/
theorem State.Inv.elapse {s : State} (h : s.Inv) (c : Nat) : (s.elapse c).Inv := by
  have hp : (s.elapse c).PpuSound :=
    (State.updateGraphics_sound c (State.advanceDiv_ppuSound h.ppuSound c)).of_bus rfl rfl rfl
  exact hp.inv (by simpa using h.flags) (by simpa using h.skip)

/-- STAT[1:0] is the low part of STAT[2:0]. -/
theorem mode_bits_of_low_three {x y : Byte} (h : x &&& 0x07#8 = y &&& 0x07#8) : x &&& 0x03#8 = y &&& 0x03#8 := by
  have e : ∀ z : Byte, z &&& 0x03#8 = z &&& 0x07#8 &&& 0x03#8 := fun z => by rw [BitVec.and_assoc]; rfl
  rw [e x, e y, h]

/-- A completed instruction keeps the invariant: its stores do, and it leaves the rest but F and the skip signal alone. -/
theorem State.Inv.cpuEffect {s t : State} {ws : List (Word × Byte)} (h : s.Inv) (e : CpuEffect s t ws) : t.Inv := by
  have k := State.storeAll_keep ws h.config h.bus
  have hs : (s.storeAll ws).PpuSound :=
    h.ppuSound.congr k.config k.sound k.ly (mode_bits_of_low_three k.stat) (s.storeAll_ppu ws)
  have ht : t.PpuSound := hs.of_bus (e.config.trans k.config.symm) e.bus (e.ppu.trans (s.storeAll_ppu ws).symm)
  exact ht.inv (e.flags h.flags) e.skip

/-- A step that stays halted keeps the invariant (rule R201). -/
theorem State.Inv.haltIdle {s : State} (h : s.Inv) : s.haltIdle.Inv :=
  (h.ppuSound.of_bus (t := s.haltIdle) rfl rfl rfl).inv h.flags rfl

/-- Recording a fault keeps the invariant (rule R244). -/
theorem State.Inv.raise {s : State} (h : s.Inv) (e : Fault) : (s.raise e).Inv :=
  (h.ppuSound.of_bus (t := s.raise e) rfl rfl rfl).inv h.flags h.skip

/-! ### What a step leaves -/

/-- The state a system step leaves, as its next state or with a fault: the state before, if it records a fault already
(rule R245); what 4 idle T-cycles leave (rule R201); what the T-cycles of a completed instruction leave; or the state
before with a new fault recorded (rules R230, R244). -/
theorem step_leaves {s t : State} (h : step s = .next t ∨ ∃ e, systemStep s = .fault e t) :
    t = s ∨ t = s.haltIdle.elapse 4 ∨
      (∃ u, CpuEffect s u (s.stores s.fetched) ∧ t = u.elapse u.cycles) ∨ ∃ e, t = s.raise e := by
  rw [step_eq_next] at h
  rcases systemStep_cases s with ⟨e, _, hs⟩ | ⟨_, _, hs⟩ | ⟨_, _, u, _, hu, hs⟩ | ⟨_, _, e, _, hs⟩ <;> rw [hs] at h
  · exact .inl (by simpa [eq_comm] using h)
  · exact .inr (.inl (by simpa [eq_comm] using h))
  · exact .inr (.inr (.inl ⟨u, hu, by simpa [eq_comm] using h⟩))
  · exact .inr (.inr (.inr ⟨e, by simpa [eq_comm] using h⟩))

/-- Settles O60, by the cases of what a step can leave: each of its parts keeps the invariant. -/
theorem stepKeepsTheInvariant : Obligations.StepKeepsTheInvariant := by
  intro s t hs h
  obtain rfl | rfl | ⟨u, hu, rfl⟩ | ⟨e, rfl⟩ := step_leaves h
  · exact hs
  · exact hs.haltIdle.elapse 4
  · exact (hs.cpuEffect hu).elapse u.cycles
  · exact hs.raise e

/-! ### The boot ROM's overlay -/

/-- A store keeps the overlay flag, the one at 0xFF50 apart, which clears it (rule R41). -/
theorem State.writeU8_bootRomMapped (s : State) (a : Word) (v : Byte) :
    (s.writeU8 a v).bus.bootRomMapped = (decide (a ≠ 0xFF50#16) && s.bus.bootRomMapped) := by
  by_cases h : a = 0xFF50#16
  · subst h; rfl
  · have hrom : (s.writeRom a v).bus.bootRomMapped = s.bus.bootRomMapped := by
      unfold State.writeRom
      dsimp only
      split <;> split <;> simp [Bus.pokeSlot_bootRomMapped]
    unfold State.writeU8
    split_ifs <;> simp [h, hrom, Bus.pokeSlot_bootRomMapped]

theorem State.storeAll_unmapped : ∀ (ws : List (Word × Byte)) {s : State}, s.bus.bootRomMapped = false →
    (s.storeAll ws).bus.bootRomMapped = false
  | [], _, h => h
  | (a, v) :: ws, s, h => State.storeAll_unmapped ws (by rw [State.writeU8_bootRomMapped, h, Bool.and_false])

theorem State.modeTick_bootRomMapped (s : State) : s.modeTick.bus.bootRomMapped = s.bus.bootRomMapped := by
  unfold State.modeTick
  split
  · split <;> rfl
  · simp only [State.drawTick, State.endDrawing]
    split <;> simp
  · split
    · simp only [State.endOfLine, State.enterLine]
      split <;> rfl
    · rfl
  · split
    · simp only [State.vBlankLineEnd, State.wrapLy]
      split <;> rfl
    · rfl

theorem State.updateGraphics_bootRomMapped : ∀ (n : Nat) (s : State),
    (s.updateGraphics n).bus.bootRomMapped = s.bus.bootRomMapped
  | 0, _ => rfl
  | n + 1, s => by
    have h : s.ppuTick.bus.bootRomMapped = s.bus.bootRomMapped := by
      unfold State.ppuTick
      split
      · exact s.countCycle.modeTick_bootRomMapped
      · rfl
    exact (State.updateGraphics_bootRomMapped n s.ppuTick).trans h

theorem State.elapse_bootRomMapped (s : State) (c : Nat) : (s.elapse c).bus.bootRomMapped = s.bus.bootRomMapped :=
  State.updateGraphics_bootRomMapped c (s.advanceDiv c)

/-- Settles O41, by the same cases: stores alone touch the overlay flag, and they only clear it. -/
theorem unmapIsForGood : Obligations.UnmapIsForGood := by
  intro s t h
  obtain rfl | rfl | ⟨u, hu, rfl⟩ | ⟨e, rfl⟩ := step_leaves h
  · exact ⟨rfl, id⟩
  · rw [State.elapse_config, State.elapse_bootRomMapped]
    exact ⟨rfl, id⟩
  · rw [State.elapse_config, State.elapse_bootRomMapped, hu.bus]
    exact ⟨hu.config, State.storeAll_unmapped _⟩
  · exact ⟨rfl, id⟩

/-! ### IME and `halted` -/

/-- What an instruction may do to IME and `halted` (rules R30, R31): only DI, EI and RETI write the first, only HALT
and STOP the second. -/
def ControlEffect (i : Instr) (s : State) (o : Out State) : Prop :=
  ∃ t, o = .next t ∧ (t.ime = s.ime ∨ i = .di ∨ i = .ei ∨ i = .reti) ∧
    (t.halted = s.halted ∨ i = .halt ∨ ∃ n, i = .stop n)

section
variable {i : Instr} {s : State}

/-- A rule that writes neither bit has an instruction that writes neither. -/
theorem runRule_control {len c : Nat} {rule : State → State} (h1 : (rule (s.begin c)).ime = s.ime)
    (h2 : (rule (s.begin c)).halted = s.halted) : ControlEffect i s (runRule len c rule s) :=
  ⟨_, rfl, .inl (by simpa using h1), .inl (by simpa using h2)⟩

/-! ### The forms that store -/

theorem storeByte_control (len c : Nat) (a : Word) (v : Byte) : ControlEffect i s (storeByte len c a v s) :=
  runRule_control (by simp) (by simp)

theorem ldAtMemA_control (p : RegMem) : ControlEffect i s (ldAtMemA p s) :=
  runRule_control (by simp) (by simp)

theorem ldAtA16Sp_control (nn : Word) : ControlEffect i s (execLdAtA16Sp nn s) :=
  runRule_control (by simp) (by simp)

theorem incAtHl_control : ControlEffect i s (execIncAtHl s) :=
  runRule_control (by simp [State.incAtHl, State.putStepFlags]) (by simp [State.incAtHl, State.putStepFlags])

theorem decAtHl_control : ControlEffect i s (execDecAtHl s) :=
  runRule_control (by simp [State.decAtHl, State.putStepFlags]) (by simp [State.decAtHl, State.putStepFlags])

theorem rotAtHl_control (op : RotOp) : ControlEffect i s (rotAtHl op s) :=
  runRule_control (by simp) (by simp)

theorem resAtHl_control (b : Fin 8) : ControlEffect i s (resAtHl b s) :=
  runRule_control (by simp) (by simp)

theorem setAtHl_control (b : Fin 8) : ControlEffect i s (setAtHl b s) :=
  runRule_control (by simp) (by simp)

theorem pushPair_control (p : RegStk) : ControlEffect i s (pushPair p s) :=
  runRule_control (by simp) (by simp)

theorem callA16_control (nn : Word) : ControlEffect i s (execCallA16 nn s) :=
  runRule_control (by simp [State.call]) (by simp [State.call])

theorem restart_control (y : Fin 8) : ControlEffect i s (restart y s) :=
  runRule_control (by simp [State.call]) (by simp [State.call])

/-! ### The conditional forms -/

/-- A conditional rule keeps the IME its rule keeps (rule R187). -/
theorem State.when_ime (s : State) (cc : Cond) (n : Nat) (rule : State → State) (h : (rule s).ime = s.ime) :
    (s.when cc n rule).ime = s.ime :=
  ite_of (fun t : State => t.ime = s.ime) (fun _ => h) (fun _ => rfl)

theorem State.when_halted (s : State) (cc : Cond) (n : Nat) (rule : State → State) (h : (rule s).halted = s.halted) :
    (s.when cc n rule).halted = s.halted :=
  ite_of (fun t : State => t.halted = s.halted) (fun _ => h) (fun _ => rfl)

theorem callIf_control (cc : Cond) (nn : Word) : ControlEffect i s (callIf cc nn s) :=
  runRule_control (State.when_ime _ _ _ _ (by simp [State.call])) (State.when_halted _ _ _ _ (by simp [State.call]))

theorem jumpRelIf_control (cc : Cond) (n : Byte) : ControlEffect i s (jumpRelIf cc n s) :=
  runRule_control (State.when_ime _ _ _ _ rfl) (State.when_halted _ _ _ _ rfl)

theorem jumpIf_control (cc : Cond) (nn : Word) : ControlEffect i s (jumpIf cc nn s) :=
  runRule_control (State.when_ime _ _ _ _ rfl) (State.when_halted _ _ _ _ rfl)

theorem returnIf_control (cc : Cond) : ControlEffect i s (returnIf cc s) :=
  runRule_control (State.when_ime _ _ _ _ rfl) (State.when_halted _ _ _ _ rfl)

/-! ### Every form -/

/-- The prefixed entry (rule R205): its [HL] forms store, its register forms evaluate. -/
theorem prefixedEntry_control (op : Byte) : ControlEffect i s (prefixedEntry op s) := by
  unfold prefixedEntry
  split
  · exact ⟨_, rfl, .inl rfl, .inl rfl⟩
  · exact rotAtHl_control _
  · exact ⟨_, rfl, .inl rfl, .inl rfl⟩
  · exact ⟨_, rfl, .inl rfl, .inl rfl⟩
  · exact ⟨_, rfl, .inl rfl, .inl rfl⟩
  · exact resAtHl_control _
  · exact ⟨_, rfl, .inl rfl, .inl rfl⟩
  · exact setAtHl_control _

theorem stopByConfig_control (n : Byte) : ControlEffect (.stop n) s (stopByConfig s) := by
  unfold stopByConfig
  split <;> exact ⟨_, rfl, .inl rfl, .inr (.inr ⟨n, rfl⟩)⟩
end

/-- Every instruction. The writers come first, then the forms that store and the conditional forms, by their lemmas; the
rest update registers, flags, PC or `fault` in fixed fields, so both bits evaluate to what they were. -/
theorem exec_control (i : Instr) (s : State) : ControlEffect i s (exec i s) := by
  cases i with
  | di | ei | reti => exact ⟨_, rfl, by simp, .inl rfl⟩
  | halt => exact ⟨_, rfl, .inl rfl, .inr (.inl rfl)⟩
  | stop n => exact stopByConfig_control n
  | prefixCb op => exact prefixedEntry_control op
  | ldAtBcA => exact ldAtMemA_control .atBc
  | ldAtDeA => exact ldAtMemA_control .atDe
  | ldAtHlIncA => exact ldAtMemA_control .atHlInc
  | ldAtHlDecA => exact ldAtMemA_control .atHlDec
  | ldAtHlN8 | ldAtHlB | ldAtHlC | ldAtHlD | ldAtHlE | ldAtHlH | ldAtHlL | ldAtHlA | ldhAtA8A | ldAtCA | ldAtA16A =>
    exact storeByte_control _ _ _ _
  | ldAtA16Sp nn => exact ldAtA16Sp_control nn
  | incAtHl => exact incAtHl_control
  | decAtHl => exact decAtHl_control
  | rlcAtHl => exact rotAtHl_control .rlc
  | rrcAtHl => exact rotAtHl_control .rrc
  | rlAtHl => exact rotAtHl_control .rl
  | rrAtHl => exact rotAtHl_control .rr
  | slaAtHl => exact rotAtHl_control .sla
  | sraAtHl => exact rotAtHl_control .sra
  | swapAtHl => exact rotAtHl_control .swap
  | srlAtHl => exact rotAtHl_control .srl
  | res0AtHl | res1AtHl | res2AtHl | res3AtHl | res4AtHl | res5AtHl | res6AtHl | res7AtHl => exact resAtHl_control _
  | set0AtHl | set1AtHl | set2AtHl | set3AtHl | set4AtHl | set5AtHl | set6AtHl | set7AtHl => exact setAtHl_control _
  | pushBc | pushDe | pushHl | pushAf => exact pushPair_control _
  | callA16 nn => exact callA16_control nn
  | callNzA16 | callZA16 | callNcA16 | callCA16 => exact callIf_control _ _
  | rst00 | rst08 | rst10 | rst18 | rst20 | rst28 | rst30 | rst38 => exact restart_control _
  | jrNzE8 | jrZE8 | jrNcE8 | jrCE8 => exact jumpRelIf_control _ _
  | jpNzA16 | jpZA16 | jpNcA16 | jpCA16 => exact jumpIf_control _ _
  | retNz | retZ | retNc | retC => exact returnIf_control _
  | _ => exact ⟨_, rfl, .inl rfl, .inl rfl⟩

/-- Settles O40: `exec_control` names the writer wherever a bit is not what it was. -/
theorem writersOfImeAndHalted : Obligations.WritersOfImeAndHalted := by
  intro i s t h
  obtain ⟨u, e, hi, hh⟩ := exec_control i s
  obtain rfl : u = t := Host.Outcome.next.inj (e.symm.trans h)
  exact ⟨hi.resolve_left, hh.resolve_left⟩

/-! ### The register file -/

theorem RegFile.get_put (rf : RegFile) (r q : Reg8) (v : Byte) :
    (rf.put r v).get q = if q = r then v else rf.get q := by
  cases r <;> cases q <;> rfl

/-- What AF reads after a write, F masked (rule R22). -/
theorem wordOf_maskF (w : Word) : wordOf (hiByte w) (maskF (loByte w)) = w &&& 0xFFF0#16 := by
  have hh : hiByte (w &&& 0xFFF0#16) = hiByte w := by
    rw [hiByte, BitVec.extractLsb'_and]
    exact BitVec.and_allOnes
  have hl : loByte (w &&& 0xFFF0#16) = maskF (loByte w) := by
    rw [loByte, BitVec.extractLsb'_and]
    rfl
  rw [← hh, ← hl, wordOf_hi_lo]

/-- Settles O42: a pair is its two bytes joined, and splitting and joining a word are inverse. -/
theorem registersAndPairs : Obligations.RegistersAndPairs := fun rf r q v w =>
  ⟨rf.get_put r q v, rf.put_f r v, wordOf_toNat _ _, wordOf_toNat _ _, wordOf_toNat _ _, wordOf_toNat _ _,
    wordOf_hi_lo w, wordOf_hi_lo w, wordOf_hi_lo w, wordOf_maskF w⟩

end Sys2Proof.Machine

/-! PROOFS. The statements about the memory bus (20_memory.md): what every address reads as, what a CPU store does
there, and that an instruction changes no memory but what it stores to. -/

namespace Sys2Proof.Machine

/-! ### Where an address reads from, region by region (rules R46, R49) -/

section
variable {s : State} {a : Word}

theorem State.slot_bootRom (h : a.toNat ≤ 0x00FF) (hm : s.bus.bootRomMapped = true) : s.slot a = .bootRom a.toNat :=
  if_pos ⟨hm, h⟩

theorem State.slot_rom0 (h : a.toNat ≤ 0x3FFF) (hm : 0x00FF < a.toNat ∨ s.bus.bootRomMapped = false) :
    s.slot a = .rom a.toNat := by
  have hc : ¬(s.bus.bootRomMapped = true ∧ a.toNat ≤ 0x00FF) := by
    rintro ⟨h1, h2⟩
    rcases hm with h3 | h3
    · omega
    · exact Bool.noConfusion (h1.symm.trans h3)
  simp only [State.slot, if_neg hc, if_pos h]

theorem State.slot_rom1 (h1 : 0x4000 ≤ a.toNat) (h2 : a.toNat ≤ 0x7FFF) :
    s.slot a = .rom (s.effBank * Config.bankSize + (a.toNat - 0x4000)) := by
  simp (disch := omega) only [State.slot, if_neg, if_pos]

theorem State.slot_vram (h1 : 0x8000 ≤ a.toNat) (h2 : a.toNat ≤ 0x9FFF) : s.slot a = .vram (a.toNat - 0x8000) := by
  simp (disch := omega) only [State.slot, if_neg, if_pos]

theorem State.slot_eram (h1 : 0xA000 ≤ a.toNat) (h2 : a.toNat ≤ 0xBFFF) : s.slot a = .eram (a.toNat - 0xA000) := by
  simp (disch := omega) only [State.slot, if_neg, if_pos]

theorem State.slot_wram (h1 : 0xC000 ≤ a.toNat) (h2 : a.toNat ≤ 0xDFFF) : s.slot a = .wram (a.toNat - 0xC000) := by
  simp (disch := omega) only [State.slot, if_neg, if_pos]

/-- The echo of work RAM reads from the byte 0x2000 below. -/
theorem State.slot_echo (h1 : 0xE000 ≤ a.toNat) (h2 : a.toNat ≤ 0xFDFF) : s.slot a = s.slot (a - 0x2000) := by
  have he : (a - 0x2000).toNat = a.toNat - 0x2000 := by bv_omega
  rw [State.slot_wram (a := a - 0x2000) (by omega) (by omega), he, Nat.sub_sub]
  simp (disch := omega) only [State.slot, if_neg, if_pos]

theorem State.slot_oam (h1 : 0xFE00 ≤ a.toNat) (h2 : a.toNat ≤ 0xFE9F) : s.slot a = .oam (a.toNat - 0xFE00) := by
  simp (disch := omega) only [State.slot, if_neg, if_pos]

theorem State.slot_gap (h1 : 0xFEA0 ≤ a.toNat) (h2 : a.toNat ≤ 0xFEFF) : s.slot a = .gap := by
  simp (disch := omega) only [State.slot, if_neg, if_pos]

theorem State.slot_div (h : a.toNat = 0xFF04) : s.slot a = .div := by
  simp (disch := omega) only [State.slot, if_neg, if_pos]

theorem State.slot_hram (h1 : 0xFF80 ≤ a.toNat) (h2 : a.toNat ≤ 0xFFFE) : s.slot a = .hram (a.toNat - 0xFF80) := by
  simp (disch := omega) only [State.slot, if_neg, if_pos]

theorem State.slot_ie (h : a.toNat = 0xFFFF) : s.slot a = .ie := by
  simp (disch := omega) only [State.slot, if_neg]

theorem State.readU8_of_slot {x : Slot} (h : s.slot a = x) : s.readU8 a = s.bus.readSlot x := congrArg s.bus.readSlot h

end

/-- Settles O43: each region's slot, read. -/
theorem readsByRegion : Obligations.ReadsByRegion := fun s a =>
  ⟨fun h hm => State.readU8_of_slot (State.slot_bootRom h hm),
    fun h hm => State.readU8_of_slot (State.slot_rom0 h hm),
    fun h1 h2 => State.readU8_of_slot (State.slot_rom1 h1 h2),
    fun h1 h2 => State.readU8_of_slot (State.slot_vram h1 h2),
    fun h1 h2 => State.readU8_of_slot (State.slot_eram h1 h2),
    fun h1 h2 => State.readU8_of_slot (State.slot_wram h1 h2),
    fun h1 h2 => State.readU8_of_slot (State.slot_echo h1 h2),
    fun h1 h2 => State.readU8_of_slot (State.slot_oam h1 h2),
    fun h1 h2 => State.readU8_of_slot (State.slot_gap h1 h2),
    fun h => State.readU8_of_slot (State.slot_div h),
    fun h1 h2 h3 => s.readU8_io (a.toNat - 0xFF00) a (by omega) (by omega) (by omega),
    fun h1 h2 => State.readU8_of_slot (State.slot_hram h1 h2),
    fun h => State.readU8_of_slot (State.slot_ie h)⟩

/-! ### Words -/

theorem loByte_eq_byteOf (w : Word) : loByte w = byteOf (w.toNat % 256) := by
  apply BitVec.eq_of_toNat_eq
  rw [loByte_toNat, byteOf, BitVec.toNat_ofNat]
  omega

theorem hiByte_eq_byteOf (w : Word) : hiByte w = byteOf (w.toNat / 256) := by
  apply BitVec.eq_of_toNat_eq
  rw [hiByte_toNat, byteOf, BitVec.toNat_ofNat]
  omega

/-- Settles O46: a word is its two bytes joined, and a word store is by definition the stores of its two bytes. -/
theorem wordAccess : Obligations.WordAccess := by
  intro s a w
  rw [← loByte_eq_byteOf, ← hiByte_eq_byteOf]
  exact ⟨(wordOf_toNat _ _).trans (Nat.add_comm _ _), rfl⟩

/-! ### The bank register -/

/-- The bank register after a select: the byte mod 32, with 0 made 1 (rule R52). -/
theorem bankOf_toNat (v : Byte) : (bankOf v).toNat = if v.toNat % 32 = 0 then 1 else v.toNat % 32 := by
  have h : (v.extractLsb' 0 5).toNat = v.toNat % 32 := by simp [BitVec.extractLsb'_toNat]
  have h0 : v.extractLsb' 0 5 = 0#5 ↔ v.toNat % 32 = 0 := by rw [← h, ← BitVec.toNat_inj]; rfl
  simp only [bankOf, h0]
  split
  · rfl
  · exact h

/-- Settles O45: `slot_rom1` is where the register shows, and `readU8_bankSelect` says it is the only place. -/
theorem bankSelection : Obligations.BankSelection := by
  intro s v a
  rw [← bankOf_toNat]
  refine ⟨by rw [BitVec.ofNat_toNat, BitVec.setWidth_eq]; rfl, rfl, bankOf_ne_zero v, fun h1 h2 => ?_,
    fun h => s.readU8_bankSelect v h⟩
  exact (State.readU8_of_slot (State.slot_rom1 h1 h2)).trans (Bus.readSlot_setBank _ _ _)

/-! ### What a CPU store does, by address (rule R51) -/

/-- Every address outside the gap reads from storage that can keep a byte. -/
theorem State.slot_ne_gap {s : State} {a : Word} (h : ¬(0xFEA0 ≤ a.toNat ∧ a.toNat ≤ 0xFEFF)) : s.slot a ≠ .gap := by
  apply s.slot_cases a (· ≠ .gap)
  case gap => exact fun h1 h2 => absurd ⟨h1, h2⟩ h
  all_goals exact fun _ => by simp

theorem State.readU8_poke_self {s : State} (hs : s.bus.Sound s.config.romBankCount) {a : Word}
    (h : ¬(0xFEA0 ≤ a.toNat ∧ a.toNat ≤ 0xFEFF)) (v : Byte) : (s.poke a v).readU8 a = v := by
  rw [State.readU8_poke hs, if_pos ⟨rfl, State.slot_ne_gap h⟩]

theorem State.writeU8_rom {s : State} {a : Word} (h : a.toNat ≤ 0x7FFF) (v : Byte) : s.writeU8 a v = s.writeRom a v :=
  if_pos h

/-- A store above ROM that is not one of the four I/O registers with an effect of their own is a plain one. -/
theorem State.writeU8_poke {s : State} {a : Word} (h : 0x8000 ≤ a.toNat) (h1 : a ≠ 0xFF04#16) (h2 : a ≠ 0xFF41#16)
    (h3 : a ≠ 0xFF44#16) (h4 : a ≠ 0xFF50#16) (v : Byte) : s.writeU8 a v = s.poke a v := by
  have h0 : ¬a.toNat ≤ 0x7FFF := by omega
  simp only [State.writeU8, if_neg h0, if_neg h1, if_neg h2, if_neg h3, if_neg h4]

/-- A store to the gap is dropped. -/
theorem State.writeU8_gap {s : State} {a : Word} (h1 : 0xFEA0 ≤ a.toNat) (h2 : a.toNat ≤ 0xFEFF) (v : Byte) :
    s.writeU8 a v = s := by
  have hne : ∀ w : Word, 0xFEFF < w.toNat → a ≠ w := by rintro w hw rfl; omega
  rw [State.writeU8_poke (by omega) (hne _ (by decide)) (hne _ (by decide)) (hne _ (by decide)) (hne _ (by decide)),
    State.poke, State.slot_gap h1 h2]
  rfl

/-- A store to STAT keeps STAT[2:0] (rule R36). -/
theorem State.writeU8_at_stat (s : State) (v : Byte) :
    s.writeU8 0xFF41#16 v = s.poke 0xFF41#16 ((v &&& 0xF8#8) ||| (s.readU8 0xFF41#16 &&& 0x07#8)) := by
  rw [s.readU8_io 0x41 _ rfl (by decide) (by decide), State.poke, s.slot_io 0x41 _ rfl (by decide) (by decide)]
  rfl

theorem State.writeU8_romBank {s : State} {a : Word} (h : 0x8000 ≤ a.toNat) (v : Byte) :
    (s.writeU8 a v).bus.romBank = s.bus.romBank := by
  have h0 : ¬a.toNat ≤ 0x7FFF := by omega
  rw [State.writeU8, if_neg h0]
  split_ifs
  · rfl
  · rfl
  · rfl
  · rfl
  · exact s.bus.pokeSlot_romBank _ _

/-- A store to ROM under `rom_writes_stick` reads back: a bank select does not move the address that selects it. -/
theorem State.writeRom_sticks {s : State} (hs : s.bus.Sound s.config.romBankCount) {a : Word} (h : a.toNat ≤ 0x7FFF)
    (hk : s.config.romWritesStick = true) (v : Byte) :
    (s.writeRom a v).readU8 a = v ∧
      (s.writeRom a v).bus.romBank = if 0x2000 ≤ a.toNat ∧ a.toNat ≤ 0x3FFF then bankOf v else s.bus.romBank := by
  have hp : (s.poke a v).readU8 a = v := State.readU8_poke_self hs (by omega) v
  simp only [State.writeRom, hk, if_true]
  split
  · exact ⟨(State.readU8_bankSelect _ _ (by omega)).trans hp, rfl⟩
  · exact ⟨hp, s.bus.pokeSlot_romBank _ _⟩

/-! ### Addresses that keep a byte -/

/-- The overlay flag set to `m`. -/
def State.setMapped (s : State) (m : Bool) : State := { s with bus := { s.bus with bootRomMapped := m } }

theorem State.readU8_setMapped (s : State) (m : Bool) {a : Word} (h : 0x8000 ≤ a.toNat) :
    (s.setMapped m).readU8 a = s.readU8 a := by
  have e : (s.setMapped m).slot a = s.slot a := s.slot_setMapped m s.bus.io (by omega)
  rw [State.readU8, e]
  exact s.bus.readSlot_setMapped m _

/-- A store to an address that keeps its byte puts it there; the one at 0xFF50 also unmaps the boot ROM (rule R41). -/
theorem State.writeU8_of_keeps {s : State} {a : Word} (h : keepsStackByte a) (v : Byte) :
    s.writeU8 a v = (s.poke a v).setMapped (decide (a ≠ 0xFF50#16) && s.bus.bootRomMapped) := by
  obtain ⟨h0, -, h1, h2, h3⟩ := h
  by_cases h4 : a = 0xFF50#16
  · subst h4
    rw [State.poke, s.slot_io 0x50 _ rfl (by decide) (by decide)]
    rfl
  · have e : (s.poke a v).setMapped s.bus.bootRomMapped = s.poke a v := by
      rw [← s.bus.pokeSlot_bootRomMapped (s.slot a) v]
      rfl
    rw [State.writeU8_poke h0 h1 h2 h3 h4, decide_eq_true h4, Bool.true_and, e]

theorem State.readU8_writeU8_of_keeps {s : State} (hs : s.bus.Sound s.config.romBankCount) {a : Word}
    (h : keepsStackByte a) (v : Byte) : (s.writeU8 a v).readU8 a = v := by
  rw [State.writeU8_of_keeps h, State.readU8_setMapped _ _ h.1, State.readU8_poke_self hs h.2.1]

/-- Settles O44: the equations of the store at each address, and `readU8_writeU8_outside` for the rest of memory. -/
theorem storesByAddress : Obligations.StoresByAddress := by
  intro s a v _ hs
  refine ⟨fun h hk => ?dropped, fun h hk => ?sticks, fun h0 hg h1 h2 h3 => ?kept,
    fun h1 h2 => State.writeU8_gap h1 h2 v, fun h => ?div, fun h => ?stat, fun h => ?ly, ?mapped,
    fun h => State.writeU8_romBank h v, fun b ho => State.readU8_writeU8_outside hs v ho⟩
  case dropped => simp only [State.writeU8_rom h, State.writeRom, hk, Bool.false_eq_true, if_false]
  case sticks =>
    rw [State.writeU8_rom h]
    exact State.writeRom_sticks hs h hk v
  case kept =>
    have hk : keepsStackByte a := ⟨h0, hg, ne_of_apply_ne _ h1, ne_of_apply_ne _ h2, ne_of_apply_ne _ h3⟩
    exact State.readU8_writeU8_of_keeps hs hk v
  case div =>
    obtain rfl : a = 0xFF04#16 := BitVec.eq_of_toNat_eq h
    rfl
  case stat =>
    obtain rfl : a = 0xFF41#16 := BitVec.eq_of_toNat_eq h
    rw [State.writeU8_at_stat]
    exact State.readU8_poke_self hs (by decide) _
  case ly =>
    obtain rfl : a = 0xFF44#16 := BitVec.eq_of_toNat_eq h
    rfl
  case mapped =>
    have e : a.toNat = 0xFF50 ↔ a = 0xFF50#16 := BitVec.toNat_inj (y := 0xFF50#16)
    rw [State.writeU8_bootRomMapped]
    by_cases h : a = 0xFF50#16 <;> simp [e, h]

/-! ### A push, then a pop -/

/-- The lowest address that reads from a slot, for a slot that only addresses above ROM read from. -/
def Slot.firstAddr (x : Slot) : Nat :=
  match x with
  | .vram i => 0x8000 + i
  | .eram i => 0xA000 + i
  | .wram i => 0xC000 + i
  | .oam i => 0xFE00 + i
  | .gap => 0xFEA0
  | .div => 0xFF04
  | .io i => 0xFF00 + i
  | .hram i => 0xFF80 + i
  | .ie => 0xFFFF
  | .bootRom i | .rom i => i

/-- Above ROM and outside the gap, an address is the first of its slot or that address's echo. -/
theorem State.firstAddr_slot {s : State} {a : Word} (h0 : 0x8000 ≤ a.toNat)
    (hg : ¬(0xFEA0 ≤ a.toNat ∧ a.toNat ≤ 0xFEFF)) :
    a.toNat = (s.slot a).firstAddr ∨ a.toNat = (s.slot a).firstAddr + 0x2000 := by
  apply s.slot_cases a (fun x => a.toNat = x.firstAddr ∨ a.toNat = x.firstAddr + 0x2000) <;> intros <;>
    simp only [Slot.firstAddr] <;> omega

/-- The two bytes of a push lie in different slots: the echo is 0x2000 away, not 1. -/
theorem State.slot_ne_of_succ {s : State} {a b : Word} (ha : keepsStackByte a) (hb : keepsStackByte b)
    (hn : a.toNat = b.toNat + 1) : s.slot a ≠ s.slot b := by
  intro e
  have h1 := State.firstAddr_slot (s := s) ha.1 ha.2.1
  have h2 := State.firstAddr_slot (s := s) hb.1 hb.2.1
  rw [e] at h1
  omega

/-- A store remaps only addresses of ROM, so above it a store changes nothing outside its slot. -/
theorem State.outside_of_slot_ne {s : State} {w a : Word} (ha : 0x8000 ≤ a.toNat) (h : s.slot a ≠ s.slot w) :
    s.outside w a := by
  refine ⟨h, ?_⟩
  rintro (⟨-, -, -, h2⟩ | ⟨-, h2⟩) <;> omega

/-- Above ROM a slot lies inside its region whatever the bank count. -/
theorem State.slot_inRange_of_high (s : State) {a : Word} (h : 0x8000 ≤ a.toNat) (banks : Nat) :
    (s.slot a).inRange banks := by
  apply s.slot_cases a (Slot.inRange banks) <;> intros <;> simp only [Slot.inRange, Config.ramSize, Config.oamSize,
    Config.ioSize, Config.hramSize] <;> omega

theorem State.writeU8_sound_of_keeps {s : State} {banks : Nat} (hs : s.bus.Sound banks) {a : Word}
    (h : keepsStackByte a) (v : Byte) : (s.writeU8 a v).bus.Sound banks := by
  have hp : (s.poke a v).bus.Sound banks := hs.pokeSlot (s.slot_inRange_of_high h.1 banks) v
  rw [State.writeU8_of_keeps h]
  exact ⟨hp.rom, hp.bootRom, hp.vram, hp.eram, hp.wram, hp.oam, hp.io, hp.hram, hp.romBank⟩

/-- After a push the high byte reads back at SP - 1 and the low byte at SP - 2. -/
theorem State.readU8_pushed {s : State} (hs : s.bus.Sound s.config.romBankCount) (h1 : keepsStackByte (s.sp - 1))
    (h2 : keepsStackByte (s.sp - 2)) (v : Word) :
    (s.storeAll (s.pushed v)).readU8 (s.sp - 1) = hiByte v ∧
      (s.storeAll (s.pushed v)).readU8 (s.sp - 2) = loByte v := by
  have hs1 : (s.writeU8 (s.sp - 1) (hiByte v)).bus.Sound (s.writeU8 (s.sp - 1) (hiByte v)).config.romBankCount := by
    rw [State.writeU8_config]
    exact State.writeU8_sound_of_keeps hs h1 _
  have hn : (s.sp - 1).toNat = (s.sp - 2).toNat + 1 := by
    have hhigh := h1.1
    bv_omega
  exact ⟨(State.readU8_writeU8_outside hs1 _ (State.outside_of_slot_ne h1.1 (State.slot_ne_of_succ h1 h2 hn))).trans
    (State.readU8_writeU8_of_keeps hs h1 _), State.readU8_writeU8_of_keeps hs1 h2 _⟩

/-- Settles O10: the two bytes read back, and a pop joins them. -/
theorem pushThenPop : Obligations.PushThenPop := by
  intro s v hs h1 h2
  obtain ⟨hhi, hlo⟩ := State.readU8_pushed hs h1 h2 v
  have hbus : ∀ a, (s.push16 v).readU8 a = (s.storeAll (s.pushed v)).readU8 a :=
    State.readU8_of_bus (s.push16_bus v) (by simp)
  have e : s.sp - 1 - 1 + 1 = s.sp - 1 := BitVec.sub_add_cancel _ _
  refine ⟨?_, ?_⟩
  · rw [State.popValue, State.push16_sp, e, sub_one_sub_one, hbus, hbus, hhi, hlo, wordOf_hi_lo]
  · rw [State.popped_sp, State.push16_sp, e, BitVec.sub_add_cancel]

/-! ### The frame of an instruction -/

/-- An address outside what each of a list of stores can change reads as before them. -/
theorem State.readU8_storeAll_outside : ∀ (ws : List (Word × Byte)) {s : State} {a : Word}, s.config.valid →
    s.bus.Sound s.config.romBankCount → s.outsideAll ws a → (s.storeAll ws).readU8 a = s.readU8 a
  | [], _, _, _, _, _ => rfl
  | (w, v) :: ws, s, a, hc, hs, ⟨ho, hrest⟩ => by
    have hcf := s.writeU8_config w v
    have ih := State.readU8_storeAll_outside ws (hcf ▸ hc) (hcf ▸ State.writeU8_sound hc hs w v) hrest
    exact ih.trans (State.readU8_writeU8_outside hs v ho)

/-- Settles O47, by the two ways an instruction ends: with exactly its stores, or with a fault and no store. -/
theorem memoryFrame : Obligations.MemoryFrame := by
  intro i s t a hc hs ht
  rcases exec_effect i s with ⟨u, hu, e⟩ | ⟨f, hf⟩
  · obtain rfl : u = t := Host.Outcome.next.inj (hu.symm.trans ht)
    refine ⟨fun ho => ?_, fun hn => by rw [e.bus, hn]; rfl, e.ppu, e.frameCycles, e.config⟩
    exact (State.readU8_of_bus e.bus (e.config.trans (s.storeAll_config _).symm) a).trans
      (State.readU8_storeAll_outside _ hc hs ho)
  · obtain rfl : s.raise f = t := Host.Outcome.next.inj (hf.symm.trans ht)
    exact ⟨fun _ => State.readU8_of_bus rfl rfl a, fun _ => rfl, rfl, rfl, rfl⟩

end Sys2Proof.Machine

/-! PROOFS. The statements about the encoding (30_encoding.md): the decoder gives back what the encoder spells, and the
encoder spells what the decoder reads. -/

namespace Sys2Proof

open Machine

/-! ### What the decoder reads is spelled by the bytes it read -/

/-- `i` is an instruction and `bs` are its bytes. -/
abbrev Instr.EncodedAs (i : Instr) (bs : List Byte) : Prop := i.wf = true ∧ encode i = bs

/-- The opcode byte with the fields `x`, `y` and `z` (rule R67). -/
def opcodeOf (x : Nat) (y z : Fin 8) : Byte := byteOf (64 * x + 8 * y + z)

theorem exists_eq_opcodeOf {x : Nat} {op : Byte} (h : fieldX op = x) : ∃ y z : Fin 8, op = opcodeOf x y z := by
  refine ⟨bitIndex op, ⟨fieldZ op, Nat.mod_lt _ (by decide)⟩, BitVec.eq_of_toNat_eq ?_⟩
  have := op.isLt
  simp only [← h, opcodeOf, byteOf, bitIndex, fieldX, fieldY, fieldZ, BitVec.toNat_ofNat]
  omega

/-- The opcode byte and as much of the immediate `nn`, low byte first, as its length asks for (rules R66, R73, R74). -/
def bytesOf (op : Byte) (nn : Word) : List Byte := [op, loByte nn, hiByte nn].take (lengthOf op)

/-- The prefixed map (rule R76), entry by entry. -/
theorem decodePrefixed_encodedAs : ∀ op : Byte, (decodePrefixed op).EncodedAs [0xCB, op] := by decide +kernel

/-- Quadrant `x = 0` (rule R75): `z` selects the form, `y` the operand. -/
theorem decodeX0_encodedAs {op : Byte} (h : fieldX op = 0) (nn : Word) :
    (decodeX0 (fieldY op) (fieldZ op) (loByte nn) nn).EncodedAs (bytesOf op nn) := by
  obtain ⟨y, z, rfl⟩ := exists_eq_opcodeOf h
  fin_cases z <;> fin_cases y <;> exact ⟨rfl, rfl⟩

/-- Quadrant `x = 1` (rule R75): `y` selects the destination, `z` the source. -/
theorem decodeX1_encodedAs {op : Byte} (h : fieldX op = 1) (nn : Word) :
    (decodeX1 (fieldY op) (fieldZ op)).EncodedAs (bytesOf op nn) := by
  obtain ⟨y, z, rfl⟩ := exists_eq_opcodeOf h
  fin_cases y <;> fin_cases z <;> exact ⟨rfl, rfl⟩

/-- Quadrant `x = 2` (rules R71, R75): `y` selects the operation, `z` the operand. -/
theorem decodeX2_encodedAs {op : Byte} (h : fieldX op = 2) (nn : Word) :
    (decodeX2 (fieldY op) (fieldZ op)).EncodedAs (bytesOf op nn) := by
  obtain ⟨y, z, rfl⟩ := exists_eq_opcodeOf h
  fin_cases y <;> fin_cases z <;> exact ⟨rfl, rfl⟩

/-- Quadrant `x = 3` (rules R75, R77, R79): the byte 0xCB leads to the prefixed map, every other byte has a row of its own. -/
theorem decodeX3_encodedAs {op : Byte} (h : fieldX op = 3) (nn : Word) :
    (decodeX3 (fieldY op) (fieldZ op) (loByte nn) nn).EncodedAs (bytesOf op nn) := by
  obtain ⟨y, z, rfl⟩ := exists_eq_opcodeOf h
  match z, y with
  | 3, 1 => exact decodePrefixed_encodedAs (loByte nn)
  | 3, 0 | 3, 2 | 3, 3 | 3, 4 | 3, 5 | 3, 6 | 3, 7 => exact ⟨rfl, rfl⟩
  | 0, y | 1, y | 2, y | 4, y | 5, y | 6, y | 7, y => fin_cases y <;> exact ⟨rfl, rfl⟩

/-- The instruction an opcode and an immediate word decode to is spelled by that opcode and the bytes of the word it has. -/
theorem decodeBytes_encodedAs (op : Byte) (nn : Word) :
    (decodeBytes op (loByte nn) (hiByte nn)).EncodedAs (bytesOf op nn) := by
  have hx : fieldX op < 4 := Nat.div_lt_of_lt_mul op.isLt
  unfold decodeBytes
  rw [wordOf_hi_lo]
  match h : fieldX op with
  | 0 => exact decodeX0_encodedAs h nn
  | 1 => exact decodeX1_encodedAs h nn
  | 2 => exact decodeX2_encodedAs h nn
  | 3 => exact decodeX3_encodedAs h nn
  | x + 4 => omega

/-- Settles O35: two following bytes are the bytes of a word. -/
theorem encodeOfDecode : Obligations.EncodeOfDecode := by
  intro b0 b1 b2
  have h := decodeBytes_encodedAs b0 (wordOf b2 b1)
  rwa [bytesOf, loByte_wordOf, hiByte_wordOf] at h

/-! ### What the encoder spells is decoded to its instruction -/

theorem lengthOf_bounds (op : Byte) : 1 ≤ lengthOf op ∧ lengthOf op ≤ 3 := by
  unfold lengthOf
  split_ifs <;> decide

/-- The list decoder answers an instruction exactly when the bytes its opcode asks for are there (rules R66, R74). -/
theorem decode_cons_eq_instr_iff {op : Byte} {bs rest : List Byte} {i : Instr} :
    decode (op :: bs) = .instr i rest ↔
      lengthOf op ≤ bs.length + 1 ∧ decodeBytes op (bs.getD 0 0) (bs.getD 1 0) = i ∧ bs.drop (lengthOf op - 1) = rest := by
  rw [decode]
  split_ifs with h
  · simp [h]
  · simp [Nat.not_lt.mp h]

/-- The first `n` of a list's bytes, 1 to 3 of them, are those of its first three, a missing one read as 0. -/
theorem take_three_append_drop {n : Nat} (op : Byte) (bs : List Byte) (h1 : 1 ≤ n) (h3 : n ≤ 3) (hn : n ≤ bs.length + 1) :
    [op, bs.getD 0 0, bs.getD 1 0].take n ++ bs.drop (n - 1) = op :: bs := by
  match n, bs, hn with
  | 1, bs, _ => rfl
  | 2, _ :: bs, _ => rfl
  | 3, _ :: _ :: bs, _ => rfl

/-- What the list decoder reads is the encoding of what it answers. -/
theorem encode_append_of_decode {bs rest : List Byte} {i : Instr} (h : decode bs = .instr i rest) :
    i.wf = true ∧ encode i ++ rest = bs := by
  cases bs with
  | nil => exact Decoded.noConfusion h
  | cons op bs =>
    obtain ⟨hlen, rfl, rfl⟩ := decode_cons_eq_instr_iff.mp h
    obtain ⟨hwf, henc⟩ := encodeOfDecode op (bs.getD 0 0) (bs.getD 1 0)
    exact ⟨hwf, henc ▸ take_three_append_drop op bs (lengthOf_bounds op).1 (lengthOf_bounds op).2 hlen⟩

/-- Bytes that are enough for an instruction are enough with more bytes after them, which are then left over. -/
theorem decode_append {bs rest : List Byte} {i : Instr} (h : decode bs = .instr i rest) (more : List Byte) :
    ∃ j, decode (bs ++ more) = .instr j (rest ++ more) := by
  cases bs with
  | nil => exact Decoded.noConfusion h
  | cons op bs =>
    obtain ⟨hlen, -, rfl⟩ := decode_cons_eq_instr_iff.mp h
    have hlen' : lengthOf op ≤ (bs ++ more).length + 1 := by rw [List.length_append]; omega
    exact ⟨_, decode_cons_eq_instr_iff.mpr ⟨hlen', rfl, List.drop_append_of_le_length (by omega)⟩⟩

/-- Alone, the encoding of an instruction decodes to it, row by row; the two bytes of a word are joined again. -/
theorem decode_encode {i : Instr} (h : i.wf = true) : decode (encode i) = .instr i [] := by
  cases i with
  | prefixCb n => exact Bool.noConfusion h
  | ldBcN16 nn | ldDeN16 nn | ldHlN16 nn | ldSpN16 nn | ldAtA16Sp nn | ldAtA16A nn | ldAAtA16 nn
  | jpA16 nn | jpNzA16 nn | jpZA16 nn | jpNcA16 nn | jpCA16 nn
  | callA16 nn | callNzA16 nn | callZA16 nn | callNcA16 nn | callCA16 nn =>
    refine Eq.trans ?_ (congrArg (Decoded.instr · []) (congrArg _ (wordOf_hi_lo nn)))
    rfl
  | _ => rfl

/-- Settles O34: more bytes after an encoding do not change what it decodes to, for the instruction decoded then has the
same encoding. -/
theorem decodeOfEncode : Obligations.DecodeOfEncode := by
  intro i rest hi
  obtain ⟨j, hj⟩ := decode_append (decode_encode hi) rest
  obtain ⟨hjwf, hbytes⟩ := encode_append_of_decode hj
  have henc : encode j = encode i := List.append_cancel_right hbytes
  have hij : Decoded.instr j [] = .instr i [] := by rw [← decode_encode hjwf, henc, decode_encode hi]
  rw [hj, (Decoded.instr.inj hij).1, List.nil_append]

/-- Settles O36: each word is the encoding of its instruction, for LDH followed by one more byte. -/
theorem writtenWordsDecode : Obligations.WrittenWordsDecode :=
  ⟨decodeOfEncode .ldAB [] rfl, decodeOfEncode (.ldSpN16 0xFFFE) [] rfl, decodeOfEncode .xorAA [] rfl,
    decodeOfEncode .incAtHl [] rfl, decodeOfEncode .addHlHl [] rfl, decodeOfEncode .bit7H [] rfl,
    decodeOfEncode .swapAtHl [] rfl, decodeOfEncode (.jrNzE8 0xFB) [] rfl, decodeOfEncode (.ldhAtA8A 0x50) [0x00] rfl,
    decodeOfEncode .halt [] rfl, decodeOfEncode .reti [] rfl, decodeOfEncode .undefinedED [] rfl⟩

end Sys2Proof

/-! PROOFS. The statements about the execution engine (40_execution_engine.md): the count each row takes, and what a step
does with the instruction at PC. -/

namespace Sys2Proof.Machine

/-! ### Cycle counts -/

@[simp] theorem State.call_cycles (s : State) (len : Nat) (a : Word) : (s.call len a).cycles = s.cycles := by
  simp [State.call]

@[simp] theorem State.incAtHl_cycles (s : State) : s.incAtHl.cycles = s.cycles := by
  simp [State.incAtHl, State.putStepFlags]

@[simp] theorem State.decAtHl_cycles (s : State) : s.decAtHl.cycles = s.cycles := by
  simp [State.decAtHl, State.putStepFlags]

/-- `t`, unless it records a fault, holds a count of the row `d`: its `cycles` or its `cycles_taken` (rule R87). -/
def Descriptor.Counts (d : Descriptor) (t : State) : Prop :=
  ∀ n, d.cycles = some n → t.fault = none → t.cycles = n ∨ d.cyclesTaken = some t.cycles

theorem Descriptor.Counts.of_cycles {d : Descriptor} {t : State} {c : Nat} (hd : d.cycles = some c)
    (ht : t.cycles = c) : d.Counts t :=
  fun _ hn _ => .inl (ht.trans (Option.some.inj (hd.symm.trans hn)))

theorem Descriptor.Counts.of_cyclesTaken {d : Descriptor} {t : State} {c : Nat} (hd : d.cyclesTaken = some c)
    (ht : t.cycles = c) : d.Counts t :=
  fun _ _ _ => .inr (hd.trans (congrArg some ht.symm))

/-- A conditional rule takes the row's `cycles_taken` when the condition holds and its `cycles` when it fails (rules R87,
R187). -/
theorem runRule_when_counts {d : Descriptor} {s : State} {len c taken : Nat} {cc : Cond} {rule : State → State}
    (hd : d.cycles = some c) (ht : d.cyclesTaken = some taken) :
    ∃ t, runRule len c (fun t => t.when cc taken rule) s = .next t ∧ d.Counts t :=
  ⟨_, rfl, ite_of (fun t : State => d.Counts (t.advance len)) (fun _ => .of_cyclesTaken ht (by simp))
    (fun _ => .of_cycles hd (by simp))⟩

/-- STOP under the default configuration records a fault; under `halt_like` it takes 4 T-cycles (rule R202). -/
theorem stopByConfig_counts (n : Byte) (s : State) :
    ∃ t, stopByConfig s = .next t ∧ (descriptor (.stop n)).Counts t := by
  unfold stopByConfig
  split
  · exact ⟨_, rfl, fun _ _ hf => nomatch hf⟩
  · exact ⟨_, rfl, .of_cycles rfl (by simp)⟩

/-- The prefixed entry answers a next state; the prefix byte's row has no count to compare with (rule R205). -/
theorem prefixedEntry_counts (op : Byte) (s : State) :
    ∃ t, prefixedEntry op s = .next t ∧ (descriptor (.prefixCb op)).Counts t := by
  obtain ⟨t, ht, -⟩ := exec_control (.prefixCb op) s
  exact ⟨t, ht, fun _ hn => nomatch hn⟩

/-- Every instruction. STOP and the rows without a count come first, then the conditional forms and the forms whose
stores leave the count by a lemma; the rest write fixed fields other than the count. -/
theorem exec_counts (i : Instr) (s : State) : ∃ t, exec i s = .next t ∧ (descriptor i).Counts t := by
  cases i with
  | stop n => exact stopByConfig_counts n s
  | prefixCb op => exact prefixedEntry_counts op s
  | undefinedD3 | undefinedDB | undefinedDD | undefinedE3 | undefinedE4 | undefinedEB | undefinedEC | undefinedED
  | undefinedF4 | undefinedFC | undefinedFD =>
    exact ⟨_, rfl, fun _ hn => nomatch hn⟩
  | jrNzE8 | jrZE8 | jrNcE8 | jrCE8 | jpNzA16 | jpZA16 | jpNcA16 | jpCA16 | callNzA16 | callZA16 | callNcA16 | callCA16
  | retNz | retZ | retNc | retC =>
    exact runRule_when_counts rfl rfl
  | ldAtBcA | ldAtDeA | ldAtHlIncA | ldAtHlDecA | ldAtHlN8 | ldAtHlB | ldAtHlC | ldAtHlD | ldAtHlE | ldAtHlH | ldAtHlL
  | ldAtHlA | ldhAtA8A | ldAtCA | ldAtA16A | ldAtA16Sp | rlcAtHl | rrcAtHl | rlAtHl | rrAtHl | slaAtHl | sraAtHl
  | swapAtHl | srlAtHl | res0AtHl | res1AtHl | res2AtHl | res3AtHl | res4AtHl | res5AtHl | res6AtHl | res7AtHl
  | set0AtHl | set1AtHl | set2AtHl | set3AtHl | set4AtHl | set5AtHl | set6AtHl | set7AtHl | pushBc | pushDe | pushHl
  | pushAf | incAtHl | decAtHl | callA16 | rst00 | rst08 | rst10 | rst18 | rst20 | rst28 | rst30 | rst38 =>
    exact ⟨_, rfl, .of_cycles rfl (by simp)⟩
  | _ => exact ⟨_, rfl, .of_cycles rfl rfl⟩

/-- Settles O39: the row's count by `exec_counts`, the bounds by what a completed instruction can do. -/
theorem cyclesFollowTheTable : Obligations.CyclesFollowTheTable := by
  intro i s t n hn _ ht hf
  obtain ⟨u, hu, hcounts⟩ := exec_counts i s
  obtain rfl : u = t := Host.Outcome.next.inj (hu.symm.trans ht)
  refine ⟨hcounts n hn hf, ?_⟩
  rcases exec_effect i s with ⟨v, hv, heffect⟩ | ⟨e, he⟩
  · obtain rfl : v = u := Host.Outcome.next.inj (hv.symm.trans ht)
    exact heffect.cycles
  · obtain rfl : s.raise e = u := Host.Outcome.next.inj (he.symm.trans ht)
    exact nomatch hf

/-! ### The step -/

/-- What the list decoder reads from the three bytes at PC is the instruction that is fetched (rules R82, R84). -/
theorem State.fetched_of_decode {s : State} {i : Instr} {rest : List Byte}
    (h : decode [s.readU8 s.pc, s.readU8 (s.pc + 1), s.readU8 (s.pc + 2)] = .instr i rest) : s.fetched = i :=
  (decode_cons_eq_instr_iff.mp h).2.1

/-- Settles O37, by the cases of a system step: one that can run either completes the fetched instruction or raises its
error. -/
theorem stepRunsDecodedInstruction : Obligations.StepRunsDecodedInstruction := by
  intro s i rest hf hh hd
  obtain rfl : s.fetched = i := State.fetched_of_decode hd
  refine ⟨(encode_append_of_decode hd).1, ?_⟩
  rcases systemStep_cases s with ⟨e, he, _⟩ | ⟨_, hhalted, _⟩ | ⟨_, _, t, ht, heffect, hs⟩ | ⟨_, _, e, ht, hs⟩
  · exact nomatch hf.symm.trans he
  · exact nomatch hh.symm.trans hhalted
  · refine ⟨t, ht, fun _ => ⟨hs, congrArg SystemOut.outcome hs⟩, fun e he => ?_⟩
    exact nomatch (heffect.fault.trans hf).symm.trans he
  · refine ⟨s.raise e, ht, (nomatch ·), fun e' he => ?_⟩
    obtain rfl : e = e' := Option.some.inj he
    exact ⟨rfl, hs, congrArg SystemOut.outcome hs⟩

end Sys2Proof.Machine

/-! PROOFS. The statements about the 8-bit loads (41_loads_8bit.md): each form is an instance of a shared load or store,
whose result is one write to the register file or one CPU store. -/

namespace Sys2Proof.Machine

/-! ### Rules that let PC advance -/

/-- A rule that leaves the signal and the cycle count as the step began them ends with PC past the instruction (rules
R33, R86, R87). -/
theorem runRule_eq_done {len c : Nat} {rule : State → State} {s t : State} (h : rule (s.begin c) = t.begin c) :
    runRule len c rule s = .next (t.done len c) := by
  rw [runRule, h]; rfl

theorem State.memStep_begin (s : State) (c : Nat) (p : RegMem) : (s.begin c).memStep p = (s.memStep p).begin c := by
  cases p <;> rfl

/-! ### The shared loads and stores -/

theorem ldRegReg_eq (dst r : Reg8) (s : State) : ldRegReg dst r s = .next ((s.putReg dst (s.reg r)).done 1 4) :=
  runRule_eq_done rfl

theorem ldRegImm_eq (dst : Reg8) (n : Byte) (s : State) : ldRegImm dst n s = .next ((s.putReg dst n).done 2 8) :=
  runRule_eq_done rfl

theorem loadByte_eq (len c : Nat) (dst : Reg8) (a : Word) (s : State) :
    loadByte len c dst a s = .next ((s.putReg dst (s.readU8 a)).done len c) :=
  runRule_eq_done rfl

theorem storeByte_eq (len c : Nat) (a : Word) (v : Byte) (s : State) :
    storeByte len c a v s = .next ((s.writeU8 a v).done len c) :=
  runRule_eq_done (s.writeU8_begin c a v)

/-- The load, then the step of HL (rules R103, R105, R106). -/
theorem ldAAtMem_eq (p : RegMem) (s : State) :
    ldAAtMem p s = .next (((s.putReg .a (s.readU8 (s.memAddr p))).memStep p).done 1 8) :=
  runRule_eq_done (State.memStep_begin (s.putReg .a (s.readU8 (s.memAddr p))) 8 p)

/-- The store, then the step of HL (rules R104, R107, R108). -/
theorem ldAtMemA_eq (p : RegMem) (s : State) :
    ldAtMemA p s = .next (((s.writeU8 (s.memAddr p) s.regs.a).memStep p).done 1 8) :=
  runRule_eq_done ((congrArg (State.memStep · p) (s.writeU8_begin 8 _ _)).trans (State.memStep_begin _ 8 p))

theorem State.putHl_writeU8 (s : State) (a x : Word) (v : Byte) :
    (s.writeU8 a v).putHl x = { s.writeU8 a v with regs := s.regs.putHl x } := by
  rw [State.putHl, State.writeU8_regs]

theorem State.hl_writeU8 (s : State) (a : Word) (v : Byte) : (s.writeU8 a v).hl = s.regs.hl := by
  rw [State.hl, State.writeU8_regs]

/-- A store whose form steps HL by `f` steps the HL from before the store (rules R107, R108). -/
theorem ldAtMemA_eq_of_putHl {p : RegMem} {f : Word → Word} (h : ∀ t : State, t.memStep p = t.putHl (f t.hl))
    (s : State) :
    ldAtMemA p s =
      .next { (s.writeU8 (s.memAddr p) s.regs.a).done 1 8 with regs := s.regs.putHl (f s.regs.hl) } := by
  rw [ldAtMemA_eq, h, State.hl_writeU8, State.putHl_writeU8]; rfl

/-! ### The rows of the register forms, by their operand codes (rules R67, R68) -/

theorem encode_mkLdRegReg (dst r : Reg8) :
    encode (mkLdRegReg dst r) = [byteOf (0x40 + 8 * codeOfReg dst + codeOfReg r)] := by
  cases dst <;> cases r <;> rfl

theorem exec_mkLdRegReg (dst r : Reg8) (s : State) : exec (mkLdRegReg dst r) s = ldRegReg dst r s := by
  cases dst <;> cases r <;> rfl

theorem encode_mkLdRegImm (dst : Reg8) (n : Byte) :
    encode (mkLdRegImm dst n) = [byteOf (0x06 + 8 * codeOfReg dst), n] := by
  cases dst <;> rfl

theorem exec_mkLdRegImm (dst : Reg8) (n : Byte) (s : State) : exec (mkLdRegImm dst n) s = ldRegImm dst n s := by
  cases dst <;> rfl

theorem encode_mkLdRegAtHl (dst : Reg8) : encode (mkLdRegAtHl dst) = [byteOf (0x46 + 8 * codeOfReg dst)] := by
  cases dst <;> rfl

theorem exec_mkLdRegAtHl (dst : Reg8) (s : State) : exec (mkLdRegAtHl dst) s = ldRegAtHl dst s := by
  cases dst <;> rfl

theorem encode_mkLdAtHlReg (r : Reg8) : encode (mkLdAtHlReg r) = [byteOf (0x70 + codeOfReg r)] := by
  cases r <;> rfl

theorem exec_mkLdAtHlReg (r : Reg8) (s : State) : exec (mkLdAtHlReg r) s = ldAtHlReg r s := by
  cases r <;> rfl

/-! ### The statements -/

/-- Settles O1: each form is its shared load, which writes one register. -/
theorem registerLoads : Obligations.RegisterLoads := fun dst r n s =>
  ⟨encode_mkLdRegReg dst r, (exec_mkLdRegReg dst r s).trans (ldRegReg_eq dst r s),
    encode_mkLdRegImm dst n, (exec_mkLdRegImm dst n s).trans (ldRegImm_eq dst n s),
    encode_mkLdRegAtHl dst, (exec_mkLdRegAtHl dst s).trans (loadByte_eq 1 8 dst s.regs.hl s)⟩

/-- Settles O2: both forms are the shared store at HL. -/
theorem storesAtHl : Obligations.StoresAtHl := fun r n s =>
  ⟨encode_mkLdAtHlReg r, (exec_mkLdAtHlReg r s).trans (storeByte_eq 1 8 s.regs.hl (s.regs.get r) s),
    rfl, storeByte_eq 2 12 s.regs.hl n s⟩

/-- Settles O3: the forms through a register pair are the shared load with the step of HL, the others the shared load of
one byte, the high page being an addition (rule R73). -/
theorem accumulatorLoads : Obligations.AccumulatorLoads := by
  intro n nn s
  rw [← highPage_eq n, ← highPage_eq s.regs.c]
  exact ⟨rfl, rfl, ldAAtMem_eq .atBc s, ldAAtMem_eq .atDe s, ldAAtMem_eq .atHlInc s, ldAAtMem_eq .atHlDec s,
    loadByte_eq 3 16 .a nn s, loadByte_eq 2 12 .a (highPage n) s, loadByte_eq 1 8 .a s.ioAddr s⟩

/-- Settles O4: the forms through a register pair are the shared store with the step of HL, the others the shared store
of one byte. -/
theorem accumulatorStores : Obligations.AccumulatorStores := by
  intro n nn s
  rw [← highPage_eq n, ← highPage_eq s.regs.c]
  exact ⟨rfl, rfl, ldAtMemA_eq .atBc s, ldAtMemA_eq .atDe s,
    ldAtMemA_eq_of_putHl (p := .atHlInc) (f := (· + 1)) (fun _ => rfl) s,
    ldAtMemA_eq_of_putHl (p := .atHlDec) (f := (· - 1)) (fun _ => rfl) s,
    storeByte_eq 3 16 nn s.regs.a s, storeByte_eq 2 12 (highPage n) s.regs.a s, storeByte_eq 1 8 s.ioAddr s.regs.a s⟩

end Sys2Proof.Machine

/-! PROOFS. The statements about the 16-bit loads and the stack (42_loads_16bit.md): each form is an instance of a shared
pair load, push, pop or stack-pointer sum, whose result is one update of the state. -/

namespace Sys2Proof.Machine

/-! ### The shared operations, with the cycle count as the step begins it -/

theorem State.putPair_begin (s : State) (c : Nat) (p : Reg16) (v : Word) :
    (s.begin c).putPair p v = (s.putPair p v).begin c := by
  cases p <;> rfl

theorem State.putStk_begin (s : State) (c : Nat) (p : RegStk) (v : Word) :
    (s.begin c).putStk p v = (s.putStk p v).begin c := by
  cases p <;> rfl

theorem State.writeU16_begin (s : State) (c : Nat) (a v : Word) :
    (s.begin c).writeU16 a v = (s.writeU16 a v).begin c := by
  rw [State.writeU16, State.writeU8_begin, State.writeU8_begin]; rfl

theorem State.addSpInto_begin (s : State) (c : Nat) (d : Reg16) (n : Byte) :
    (s.begin c).addSpInto d n = (s.addSpInto d n).begin c := by
  cases d <;> rfl

/-! ### What each shared operation answers -/

theorem ldPairImm_eq (p : Reg16) (nn : Word) (s : State) : ldPairImm p nn s = .next ((s.putPair p nn).done 3 12) :=
  runRule_eq_done (s.putPair_begin 12 p nn)

theorem execLdSpHl_eq (s : State) : execLdSpHl s = .next ((s.putPair .sp s.hl).done 1 8) :=
  runRule_eq_done (s.putPair_begin 8 .sp s.hl)

theorem execLdAtA16Sp_eq (nn : Word) (s : State) : execLdAtA16Sp nn s = .next ((s.writeU16 nn s.sp).done 3 20) :=
  runRule_eq_done (s.writeU16_begin 20 nn s.sp)

/-- SP plus the offset goes into `d`, and the four flag writes are one update of F (rules R118, R158). -/
theorem runRule_addSpInto (len c : Nat) (d : Reg16) (n : Byte) (s : State) :
    runRule len c (fun t => t.addSpInto d n) s =
      let t := s.putPair d (s.sp + sext16 n)
      .next ({ t with regs := t.regs.flags false false (addSpHalf s.sp n) (addSpCarry s.sp n) }.done len c) := by
  rw [runRule_eq_done (s.addSpInto_begin c d n), State.addSpInto, State.putFlags_eq]

/-- The value is read before SP moves, and a push is its two stores and SP - 2 (rules R61, R119). -/
theorem pushPair_eq (p : RegStk) (s : State) :
    pushPair p s = .next ({ s.storeAll (s.pushed (s.stk p)) with sp := s.sp - 2 }.done 1 16) := by
  rw [← State.push16_eq]
  exact runRule_eq_done (s.push16_begin 16 (s.stk p))

/-- The pair takes the byte at SP + 1 above the byte at SP, and SP moves by 2 (rules R62, R120, R121). -/
theorem popPair_eq (p : RegStk) (s : State) :
    popPair p s =
      .next (({ s with sp := s.sp + 2 }.putStk p (wordOf (s.readU8 (s.sp + 1)) (s.readU8 s.sp))).done 1 12) := by
  rw [← s.popped_eq]
  exact runRule_eq_done (s.popped.putStk_begin 12 p s.popValue)

/-! ### A pair written with two bytes (rule R22) -/

theorem RegFile.putBc_wordOf (rf : RegFile) (hi lo : Byte) :
    rf.putBc (wordOf hi lo) = { rf with b := hi, c := lo } := by
  rw [RegFile.putBc, hiByte_wordOf, loByte_wordOf]

theorem RegFile.putDe_wordOf (rf : RegFile) (hi lo : Byte) :
    rf.putDe (wordOf hi lo) = { rf with d := hi, e := lo } := by
  rw [RegFile.putDe, hiByte_wordOf, loByte_wordOf]

theorem RegFile.putHl_wordOf (rf : RegFile) (hi lo : Byte) :
    rf.putHl (wordOf hi lo) = { rf with h := hi, l := lo } := by
  rw [RegFile.putHl, hiByte_wordOf, loByte_wordOf]

theorem RegFile.putAf_wordOf (rf : RegFile) (hi lo : Byte) :
    rf.putAf (wordOf hi lo) = { rf with a := hi, f := lo &&& 0xF0#8 } := by
  rw [RegFile.putAf, hiByte_wordOf, loByte_wordOf, maskF]

/-! ### The rows of the stack forms, by their operand codes (rule R69) -/

theorem encode_mkPush (p : RegStk) : encode (mkPush p) = [byteOf (0xC5 + 16 * codeOfStk p)] := by
  cases p <;> rfl

theorem exec_mkPush (p : RegStk) (s : State) : exec (mkPush p) s = pushPair p s := by
  cases p <;> rfl

theorem exec_mkPop (p : RegStk) (s : State) : exec (mkPop p) s = popPair p s := by
  cases p <;> rfl

/-! ### The statements -/

/-- Settles O5: the forms with an immediate are the shared load of a pair, and `LD SP,HL` writes SP alone. -/
theorem pairLoads : Obligations.PairLoads := fun nn s =>
  ⟨rfl, ldPairImm_eq .bc nn s, ldPairImm_eq .de nn s, ldPairImm_eq .hl nn s, ldPairImm_eq .sp nn s,
    execLdSpHl_eq s⟩

/-- Settles O6: the word store is the CPU stores of its two bytes, low byte first (rule R54). -/
theorem stackPointerStore : Obligations.StackPointerStore := fun nn s => ⟨rfl, execLdAtA16Sp_eq nn s⟩

/-- Settles O7: both forms are the shared sum of SP and the offset, into HL and into SP. -/
theorem stackPointerPlusOffset : Obligations.StackPointerPlusOffset := fun n s =>
  ⟨rfl, rfl, runRule_addSpInto 2 12 .hl n s, runRule_addSpInto 2 16 .sp n s⟩

/-- Settles O8: every row is the shared push of its pair. -/
theorem pushStoresPair : Obligations.PushStoresPair := fun p s =>
  ⟨encode_mkPush p, (exec_mkPush p s).trans (pushPair_eq p s)⟩

/-- Settles O9: every row is the shared pop of its pair, whose two registers take the bytes at SP + 1 and at SP. -/
theorem popLoadsPair : Obligations.PopLoadsPair := by
  intro s
  simp only [exec_mkPop, popPair_eq, State.putStk, RegFile.putBc_wordOf, RegFile.putDe_wordOf, RegFile.putHl_wordOf,
    RegFile.putAf_wordOf]
  exact ⟨rfl, rfl, rfl, rfl, rfl⟩

end Sys2Proof.Machine

/-! PROOFS. The statements about 8-bit arithmetic and logic (43_alu_8bit.md): the chained carry helpers are one sum or
difference in 9 bits, and each form writes the register file alone or stores one byte. -/

namespace Sys2Proof.Machine

/-! ### Bytes as numbers -/

theorem byteOf_toNat (n : Nat) : (byteOf n).toNat = n % 256 := BitVec.toNat_ofNat n 8

theorem byteOf_eq_zero_iff (n : Nat) : byteOf n = 0 ↔ n % 256 = 0 := by
  rw [← BitVec.toNat_inj, byteOf_toNat]; rfl

theorem bitByte_toNat (b : Bool) : (bitByte b).toNat = b.toNat := by
  cases b <;> rfl

/-! ### The carry helpers in 9 bits (rules R90 to R92) -/

/-- `a + b + cin` as a byte, with its carries out of bits 3 and 7. -/
def sumTracked (a b : Byte) (cin : Nat) : Tracked :=
  { value := byteOf (a.toNat + b.toNat + cin)
    half := decide (a.toNat % 16 + b.toNat % 16 + cin > 15)
    full := decide (a.toNat + b.toNat + cin > 255) }

/-- `a - b - cin` as a byte, with its borrows into bits 3 and 7. -/
def differenceTracked (a b : Byte) (cin : Nat) : Tracked :=
  { value := byteOf (a.toNat + 512 - b.toNat - cin)
    half := decide (a.toNat % 16 < b.toNat % 16 + cin)
    full := decide (a.toNat < b.toNat + cin) }

theorem carryTrackAddU8_eq (a b : Byte) : carryTrackAddU8 a b = sumTracked a b 0 := by
  simp only [carryTrackAddU8, sumTracked, Tracked.mk.injEq, decide_eq_decide]
  refine ⟨BitVec.eq_of_toNat_eq ?_, ?_, Iff.rfl⟩
  · rw [byteOf_toNat, BitVec.toNat_add]; rfl
  · omega

theorem carryTrackSubU8_eq (a b : Byte) : carryTrackSubU8 a b = differenceTracked a b 0 := by
  simp only [carryTrackSubU8, differenceTracked, Tracked.mk.injEq, decide_eq_decide]
  refine ⟨BitVec.eq_of_toNat_eq ?_, Iff.rfl, Iff.rfl⟩
  rw [byteOf_toNat, BitVec.toNat_sub]
  omega

/-- Of the two chained additions at most one carries out of each bit, and one does when the whole sum does. -/
theorem adc8_eq (a b : Byte) (cin : Bool) : adc8 a b cin = sumTracked a b cin.toNat := by
  have hc := cin.toNat_le
  simp only [adc8, carryTrackAddU8_eq, sumTracked, Tracked.mk.injEq, ← Bool.decide_or, decide_eq_decide, byteOf_toNat,
    bitByte_toNat]
  refine ⟨BitVec.eq_of_toNat_eq ?_, ?_, ?_⟩
  · rw [byteOf_toNat, byteOf_toNat]; omega
  · omega
  · omega

/-- Of the two chained subtractions at most one borrows into each bit, and one does when the whole difference does. -/
theorem sbc8_eq (a b : Byte) (cin : Bool) : sbc8 a b cin = differenceTracked a b cin.toNat := by
  have hc := cin.toNat_le
  simp only [sbc8, carryTrackSubU8_eq, differenceTracked, Tracked.mk.injEq, ← Bool.decide_or, decide_eq_decide,
    byteOf_toNat, bitByte_toNat]
  refine ⟨BitVec.eq_of_toNat_eq ?_, ?_, ?_⟩
  · rw [byteOf_toNat, byteOf_toNat]; omega
  · omega
  · omega

/-! ### The register file after an ALU operation -/

/-- The register file after an ALU operation of A and `v` (rule R122). -/
def RegFile.afterAlu (rf : RegFile) (op : AluOp) (v : Byte) : RegFile :=
  let o := aluEval op rf.a v (flagC rf.f)
  (if aluWritesA op then { rf with a := o.value } else rf).flags o.z o.n o.h o.c

theorem RegFile.flags_sumTracked (rf : RegFile) (v : Byte) (cin : Nat) :
    let t := sumTracked rf.a v cin
    { rf with a := t.value }.flags (decide (t.value = 0)) false t.half t.full = rf.afterAdd v cin := by
  simp only [sumTracked, byteOf_eq_zero_iff, RegFile.afterAdd]

theorem RegFile.flags_differenceTracked (rf : RegFile) (v : Byte) (cin : Nat) :
    let t := differenceTracked rf.a v cin
    { rf with a := t.value }.flags (decide (t.value = 0)) true t.half t.full = rf.afterSub v cin := by
  simp only [differenceTracked, byteOf_eq_zero_iff]
  rfl

theorem RegFile.flags_differenceTracked_keep (rf : RegFile) (v : Byte) (cin : Nat) :
    let t := differenceTracked rf.a v cin
    rf.flags (decide (t.value = 0)) true t.half t.full = rf.afterCompare v cin := by
  simp only [differenceTracked, byteOf_eq_zero_iff, RegFile.afterCompare]

theorem RegFile.afterAlu_add (rf : RegFile) (v : Byte) : rf.afterAlu .add v = rf.afterAdd v 0 := by
  rw [← rf.flags_sumTracked, ← carryTrackAddU8_eq]; rfl

theorem RegFile.afterAlu_adc (rf : RegFile) (v : Byte) : rf.afterAlu .adc v = rf.afterAdd v (flagC rf.f).toNat := by
  rw [← rf.flags_sumTracked, ← adc8_eq]; rfl

theorem RegFile.afterAlu_sub (rf : RegFile) (v : Byte) : rf.afterAlu .sub v = rf.afterSub v 0 := by
  rw [← rf.flags_differenceTracked, ← carryTrackSubU8_eq]; rfl

theorem RegFile.afterAlu_sbc (rf : RegFile) (v : Byte) : rf.afterAlu .sbc v = rf.afterSub v (flagC rf.f).toNat := by
  rw [← rf.flags_differenceTracked, ← sbc8_eq]; rfl

theorem RegFile.afterAlu_cp (rf : RegFile) (v : Byte) : rf.afterAlu .cp v = rf.afterCompare v 0 := by
  rw [← rf.flags_differenceTracked_keep, ← carryTrackSubU8_eq]; rfl

/-! ### The forms of an ALU operation -/

/-- A rule that writes the register file alone (rules R33, R86, R87). -/
theorem runRule_eq_regs {len c : Nat} {rule : State → State} {s : State} {rf : RegFile}
    (h : rule (s.begin c) = { s.begin c with regs := rf }) :
    runRule len c rule s = .next { s.done len c with regs := rf } :=
  runRule_eq_done (t := { s with regs := rf }) h

theorem runRule_aluApply (len c : Nat) (op : AluOp) (v : State → Byte) (s : State) :
    runRule len c (fun t => t.aluApply op (v t)) s =
      .next { s.done len c with regs := s.regs.afterAlu op (v (s.begin c)) } :=
  runRule_eq_regs ((s.begin c).aluApply_eq op _)

/-! ### The rows of an ALU operation, by their operation and operand codes (rules R68, R71) -/

theorem encode_mkAluReg (op : AluOp) (r : Reg8) :
    encode (mkAluReg op r) = [byteOf (0x80 + 8 * codeOfAlu op + codeOfReg r)] := by
  cases op <;> cases r <;> rfl

theorem exec_mkAluReg (op : AluOp) (r : Reg8) (s : State) : exec (mkAluReg op r) s = aluReg op r s := by
  cases op <;> cases r <;> rfl

theorem exec_mkAluAtHl (op : AluOp) (s : State) : exec (mkAluAtHl op) s = aluAtHl op s := by
  cases op <;> rfl

theorem exec_mkAluImm (op : AluOp) (n : Byte) (s : State) : exec (mkAluImm op n) s = aluImm op n s := by
  cases op <;> rfl

/-- The three forms of an operation differ in the operand, the length and the count alone (rule R122). -/
theorem aluForms {op : AluOp} {s : State} {result : Byte → RegFile} (h : ∀ v, s.regs.afterAlu op v = result v)
    (r : Reg8) (n : Byte) :
    exec (mkAluReg op r) s = .next { s.done 1 4 with regs := result (s.regs.get r) } ∧
      exec (mkAluAtHl op) s = .next { s.done 1 8 with regs := result (s.readU8 s.regs.hl) } ∧
      exec (mkAluImm op n) s = .next { s.done 2 8 with regs := result n } := by
  rw [← h, ← h, ← h, exec_mkAluReg, exec_mkAluAtHl, exec_mkAluImm]
  exact ⟨runRule_aluApply 1 4 op (fun t => t.reg r) s, runRule_aluApply 1 8 op (fun t => t.readU8 t.hl) s,
    runRule_aluApply 2 8 op (fun _ => n) s⟩

/-! ### INC and DEC (rules R93, R147 to R150) -/

theorem incEval_half (v : Byte) : (incEval v).half = decide (v.toNat % 16 = 15) := by
  have h : (v.toNat % 16 + 1) / 16 % 2 ≠ 0 ↔ v.toNat % 16 = 15 := by omega
  exact decide_eq_decide.mpr h

theorem decEval_half (v : Byte) : (decEval v).half = decide (v.toNat % 16 = 0) :=
  decide_eq_decide.mpr Nat.lt_one_iff

theorem add_one_eq_zero_iff (v : Byte) : v + 1 = 0 ↔ v = 0xFF := by bv_omega

theorem sub_one_eq_zero_iff (v : Byte) : v - 1 = 0 ↔ v = 0x01 := by bv_omega

/-- The flags INC writes, from the byte before it (rule R147). -/
theorem State.putStepFlags_inc (s : State) (v : Byte) :
    s.putStepFlags (incEval v) false =
      { s with
        regs := s.regs.flags (decide (v = 0xFF)) false (decide (v.toNat % 16 = 15)) (flagC s.regs.f) } := by
  rw [← decide_eq_decide.mpr (add_one_eq_zero_iff v), ← incEval_half]
  exact s.putZNH_flags _ _ _

/-- The flags DEC writes, from the byte before it (rule R149). -/
theorem State.putStepFlags_dec (s : State) (v : Byte) :
    s.putStepFlags (decEval v) true =
      { s with
        regs := s.regs.flags (decide (v = 0x01)) true (decide (v.toNat % 16 = 0)) (flagC s.regs.f) } := by
  rw [← decide_eq_decide.mpr (sub_one_eq_zero_iff v), ← decEval_half]
  exact s.putZNH_flags _ _ _

theorem incReg_eq (r : Reg8) (s : State) :
    incReg r s = .next (((s.putReg r (s.reg r + 1)).putStepFlags (incEval (s.reg r)) false).done 1 4) :=
  runRule_eq_done rfl

theorem decReg_eq (r : Reg8) (s : State) :
    decReg r s = .next (((s.putReg r (s.reg r - 1)).putStepFlags (decEval (s.reg r)) true).done 1 4) :=
  runRule_eq_done rfl

theorem State.storeStep_begin (s : State) (c : Nat) (a : Word) (v : Byte) (o : Tracked) (n : Bool) :
    ((s.begin c).writeU8 a v).putStepFlags o n = ((s.writeU8 a v).putStepFlags o n).begin c := by
  rw [State.writeU8_begin]; rfl

theorem execIncAtHl_eq (s : State) :
    execIncAtHl s =
      .next (((s.writeU8 s.hl (s.readU8 s.hl + 1)).putStepFlags (incEval (s.readU8 s.hl)) false).done 1 12) :=
  runRule_eq_done (s.storeStep_begin 12 _ _ _ _)

theorem execDecAtHl_eq (s : State) :
    execDecAtHl s =
      .next (((s.writeU8 s.hl (s.readU8 s.hl - 1)).putStepFlags (decEval (s.readU8 s.hl)) true).done 1 12) :=
  runRule_eq_done (s.storeStep_begin 12 _ _ _ _)

theorem encode_mkIncReg (r : Reg8) : encode (mkIncReg r) = [byteOf (0x04 + 8 * codeOfReg r)] := by
  cases r <;> rfl

theorem encode_mkDecReg (r : Reg8) : encode (mkDecReg r) = [byteOf (0x05 + 8 * codeOfReg r)] := by
  cases r <;> rfl

theorem exec_mkIncReg (r : Reg8) (s : State) : exec (mkIncReg r) s = incReg r s := by
  cases r <;> rfl

theorem exec_mkDecReg (r : Reg8) (s : State) : exec (mkDecReg r) s = decReg r s := by
  cases r <;> rfl

/-! ### DAA (rule R151) -/

theorem add_byteOf (a : Byte) (n : Nat) : a + byteOf n = byteOf (a.toNat + n) := by
  apply BitVec.eq_of_toNat_eq
  rw [BitVec.toNat_add, byteOf_toNat, byteOf_toNat, Nat.add_mod_mod]

theorem sub_byteOf (a : Byte) {n : Nat} (h : n ≤ 256) : a - byteOf n = byteOf (a.toNat + 256 - n) := by
  apply BitVec.eq_of_toNat_eq
  rw [BitVec.toNat_sub, byteOf_toNat, byteOf_toNat]
  omega

/-- The two adjustments share no bit, so joining them is adding them. -/
theorem adjustment_eq (high low : Bool) :
    (if low then (if high then 0x60#8 else 0x00#8) ||| 0x06#8 else if high then 0x60#8 else 0x00#8) =
      byteOf (0x60 * high.toNat + 0x06 * low.toNat) := by
  cases high <;> cases low <;> rfl

theorem adjustment_le (high low : Bool) : 0x60 * high.toNat + 0x06 * low.toNat ≤ 256 := by
  have h1 := high.toNat_le
  have h2 := low.toNat_le
  omega

/-- DAA after an addition is one addition (rule R151). -/
theorem daaEval_after_add (a : Byte) (h c : Bool) :
    let high : Bool := c || decide (a.toNat > 0x99)
    let low : Bool := h || decide (a.toNat % 16 > 9)
    daaEval a false h c = (byteOf (a.toNat + (0x60 * high.toNat + 0x06 * low.toNat)), high) := by
  intro high low
  rw [← add_byteOf, ← adjustment_eq]; rfl

/-- DAA after a subtraction is one subtraction (rule R151). -/
theorem daaEval_after_sub (a : Byte) (h c : Bool) :
    daaEval a true h c = (byteOf (a.toNat + 256 - (0x60 * c.toNat + 0x06 * h.toNat)), c) := by
  rw [← sub_byteOf _ (adjustment_le c h), ← adjustment_eq]; rfl

/-- The register file after DAA: A and Cf adjusted, Z recomputed, Hf cleared, N kept (rule R151). -/
theorem State.adjustA_regs (s : State) :
    let o := daaEval s.regs.a (flagN s.regs.f) (flagH s.regs.f) (flagC s.regs.f)
    s.adjustA = { s with regs := { s.regs with a := o.1 }.flags (decide (o.1 = 0)) (flagN s.regs.f) false o.2 } := by
  intro o
  rw [RegFile.flags, ← putZHC_eq]; rfl

theorem State.adjustA_eq (s : State) : s.adjustA = { s with regs := s.regs.afterDaa } := by
  rw [State.adjustA_regs, RegFile.afterDaa]
  cases flagN s.regs.f with
  | false => rw [daaEval_after_add]; rfl
  | true => rw [daaEval_after_sub, Bool.not_true, Bool.false_and, Bool.false_and, Bool.or_false, Bool.or_false]; rfl

theorem execDaa_eq (s : State) : execDaa s = .next { s.done 1 4 with regs := s.regs.afterDaa } :=
  runRule_eq_regs (s.begin 4).adjustA_eq

/-! ### CPL, SCF and CCF (rules R152 to R154) -/

theorem execCpl_eq (s : State) :
    execCpl s =
      .next { s.done 1 4 with
        regs := { s.regs with a := ~~~s.regs.a }.flags (flagZ s.regs.f) true true (flagC s.regs.f) } := by
  have ha : s.regs.a ^^^ 0xFF#8 = ~~~s.regs.a := BitVec.xor_allOnes
  apply runRule_eq_regs
  rw [← ha, RegFile.flags, ← putNH_eq]; rfl

theorem execScf_eq (s : State) :
    execScf s = .next { s.done 1 4 with regs := s.regs.flags (flagZ s.regs.f) false false true } :=
  runRule_eq_regs ((s.begin 4).putNHC_flags false false true)

theorem execCcf_eq (s : State) :
    execCcf s = .next { s.done 1 4 with regs := s.regs.flags (flagZ s.regs.f) false false (!flagC s.regs.f) } :=
  runRule_eq_regs ((s.begin 4).putNHC_flags false false (!flagC s.regs.f))

/-! ### What DAA sees of the operation before it -/

@[simp] theorem RegFile.flags_a (rf : RegFile) (z n h c : Bool) : (rf.flags z n h c).a = rf.a := rfl

@[simp] theorem RegFile.flagN_flags (rf : RegFile) (z n h c : Bool) : flagN (rf.flags z n h c).f = n := by
  obtain ⟨-, hn, -, -⟩ := flagByte_flags z n h c rf.f
  exact hn

@[simp] theorem RegFile.flagH_flags (rf : RegFile) (z n h c : Bool) : flagH (rf.flags z n h c).f = h := by
  obtain ⟨-, -, hh, -⟩ := flagByte_flags z n h c rf.f
  exact hh

@[simp] theorem RegFile.flagC_flags (rf : RegFile) (z n h c : Bool) : flagC (rf.flags z n h c).f = c := by
  obtain ⟨-, -, -, hc⟩ := flagByte_flags z n h c rf.f
  exact hc

/-! ### Decimal bytes -/

theorem bcd_toNat {x : Nat} (h : x < 100) : (bcd x).toNat = 16 * (x / 10) + x % 10 := by
  rw [bcd, byteOf_toNat]; omega

/-- The sum of two decimal bytes calls for the high adjustment when the decimal sum has three digits. -/
theorem bcd_sum_high {x y : Nat} (hx : x < 100) (hy : y < 100) :
    ((bcd x).toNat + (bcd y).toNat > 255 ∨ ((bcd x).toNat + (bcd y).toNat) % 256 > 0x99) ↔ x + y ≥ 100 := by
  have tens : x + y < 100 → x / 10 + y / 10 ≤ 9 := by omega
  have wraps : ∀ n < 308, (n > 255 ∨ n % 256 > 0x99) ↔ n > 0x99 := by omega
  rw [bcd_toNat hx, bcd_toNat hy, wraps _ (by omega)]
  omega

/-- The sum of two decimal bytes calls for the low adjustment when the low digits carry. -/
theorem bcd_sum_low {x y : Nat} (hx : x < 100) (hy : y < 100) :
    ((bcd x).toNat % 16 + (bcd y).toNat % 16 > 15 ∨ ((bcd x).toNat + (bcd y).toNat) % 256 % 16 > 9) ↔
      x % 10 + y % 10 > 9 := by
  rw [bcd_toNat hx, bcd_toNat hy]
  omega

/-- A nibble has 6 values more than a decimal digit, so each digit that carries takes 6 more. -/
theorem bcd_sum_adjusted {x y : Nat} (hx : x < 100) (hy : y < 100) :
    byteOf (((bcd x).toNat + (bcd y).toNat) % 256 +
      (0x60 * (decide (x + y ≥ 100)).toNat + 0x06 * (decide (x % 10 + y % 10 > 9)).toNat)) = bcd ((x + y) % 100) := by
  apply BitVec.eq_of_toNat_eq
  rw [byteOf_toNat, bcd_toNat hx, bcd_toNat hy, bcd_toNat (Nat.mod_lt _ (by decide))]
  by_cases high : x + y ≥ 100 <;> by_cases low : x % 10 + y % 10 > 9 <;>
    simp only [high, low, decide_true, decide_false, Bool.toNat_true, Bool.toNat_false] <;> omega

/-- Between two decimal bytes the borrows are the decimal borrows. -/
theorem bcd_lt_iff {x y : Nat} (hx : x < 100) (hy : y < 100) : (bcd x).toNat < (bcd y).toNat ↔ x < y := by
  rw [bcd_toNat hx, bcd_toNat hy]
  omega

theorem bcd_mod_sixteen {x : Nat} (hx : x < 100) : (bcd x).toNat % 16 = x % 10 := by
  rw [bcd_toNat hx]
  omega

/-- A nibble has 6 values more than a decimal digit, so each digit that borrows gives 6 back. -/
theorem bcd_difference_adjusted {x y : Nat} (hx : x < 100) (hy : y < 100) :
    byteOf (((bcd x).toNat + 512 - (bcd y).toNat) % 256 + 256 -
      (0x60 * (decide (x < y)).toNat + 0x06 * (decide (x % 10 < y % 10)).toNat)) = bcd ((x + 100 - y) % 100) := by
  apply BitVec.eq_of_toNat_eq
  rw [byteOf_toNat, bcd_toNat hx, bcd_toNat hy, bcd_toNat (Nat.mod_lt _ (by decide))]
  by_cases high : x < y <;> by_cases low : x % 10 < y % 10 <;>
    simp only [high, low, decide_true, decide_false, Bool.toNat_true, Bool.toNat_false] <;> omega

/-! ### Decimal arithmetic (43_alu_8bit.md section 11) -/

theorem RegFile.afterDaa_afterAdd_bcd {rf : RegFile} {x y : Nat} (hx : x < 100) (hy : y < 100) (ha : rf.a = bcd x) :
    (rf.afterAdd (bcd y) 0).afterDaa.a = bcd ((x + y) % 100) ∧
      flagC (rf.afterAdd (bcd y) 0).afterDaa.f = decide (x + y ≥ 100) := by
  simp only [RegFile.afterDaa, RegFile.afterAdd, RegFile.flags_a, RegFile.flagN_flags, RegFile.flagH_flags,
    RegFile.flagC_flags, ha, byteOf_toNat, Nat.add_zero, Bool.not_false, Bool.true_and, ← Bool.decide_or,
    bcd_sum_high hx hy, bcd_sum_low hx hy]
  exact ⟨bcd_sum_adjusted hx hy, trivial⟩

theorem RegFile.afterDaa_afterSub_bcd {rf : RegFile} {x y : Nat} (hx : x < 100) (hy : y < 100) (ha : rf.a = bcd x) :
    (rf.afterSub (bcd y) 0).afterDaa.a = bcd ((x + 100 - y) % 100) ∧
      flagC (rf.afterSub (bcd y) 0).afterDaa.f = decide (x < y) := by
  simp only [RegFile.afterDaa, RegFile.afterSub, RegFile.afterCompare, RegFile.flags_a, RegFile.flagN_flags,
    RegFile.flagH_flags, RegFile.flagC_flags, ha, byteOf_toNat, Nat.add_zero, Nat.sub_zero, Bool.not_true,
    Bool.false_and, Bool.or_false, bcd_lt_iff hx hy, bcd_mod_sixteen hx, bcd_mod_sixteen hy]
  exact ⟨bcd_difference_adjusted hx hy, trivial⟩

/-! ### The statements -/

/-- Settles O11: the three forms of each operation, with the 9-bit sum of its carry-in. -/
theorem addWithAndWithoutCarry : Obligations.AddWithAndWithoutCarry := by
  intro r n s
  obtain ⟨addReg, addAtHl, addImm⟩ := aluForms s.regs.afterAlu_add r n
  obtain ⟨adcReg, adcAtHl, adcImm⟩ := aluForms s.regs.afterAlu_adc r n
  simp only [encode_mkAluReg]
  exact ⟨rfl, rfl, addReg, addAtHl, addImm, adcReg, adcAtHl, adcImm⟩

/-- Settles O12: the three forms of each operation, with the 9-bit difference of its borrow-in. -/
theorem subtractWithAndWithoutBorrow : Obligations.SubtractWithAndWithoutBorrow := by
  intro r n s
  obtain ⟨subReg, subAtHl, subImm⟩ := aluForms s.regs.afterAlu_sub r n
  obtain ⟨sbcReg, sbcAtHl, sbcImm⟩ := aluForms s.regs.afterAlu_sbc r n
  simp only [encode_mkAluReg]
  exact ⟨rfl, rfl, subReg, subAtHl, subImm, sbcReg, sbcAtHl, sbcImm⟩

/-- Settles O13: the three forms of each operation; the flags are the operation's own. -/
theorem logicOperations : Obligations.LogicOperations := by
  intro r n s
  obtain ⟨andReg, andAtHl, andImm⟩ := aluForms (op := .and) (s := s) (fun _ => rfl) r n
  obtain ⟨xorReg, xorAtHl, xorImm⟩ := aluForms (op := .xor) (s := s) (fun _ => rfl) r n
  obtain ⟨orReg, orAtHl, orImm⟩ := aluForms (op := .or) (s := s) (fun _ => rfl) r n
  simp only [encode_mkAluReg]
  exact ⟨rfl, rfl, andReg, andAtHl, andImm, xorReg, xorAtHl, xorImm, orReg, orAtHl, orImm⟩

/-- Settles O14: the three forms, with the flags of the 9-bit difference. -/
theorem compareKeepsAccumulator : Obligations.CompareKeepsAccumulator := by
  intro r n s
  rw [encode_mkAluReg]
  exact ⟨rfl, aluForms s.regs.afterAlu_cp r n⟩

/-- Settles O15: each form is one write of the stepped byte, then the flags from the byte before. -/
theorem incrementAndDecrement : Obligations.IncrementAndDecrement := by
  intro r s
  simp only [encode_mkIncReg, encode_mkDecReg, exec_mkIncReg, exec_mkDecReg, incReg_eq, decReg_eq,
    State.putStepFlags_inc, State.putStepFlags_dec, State.putReg_regs, RegFile.put_f]
  refine ⟨rfl, rfl, rfl, ?_, ?_⟩
  · refine (execIncAtHl_eq s).trans ?_
    rw [State.putStepFlags_inc, State.writeU8_regs]; rfl
  · refine (execDecAtHl_eq s).trans ?_
    rw [State.putStepFlags_dec, State.writeU8_regs]; rfl

/-- Settles O16: the meaning's two branches are one addition and one subtraction. -/
theorem decimalAdjust : Obligations.DecimalAdjust := fun s => ⟨rfl, execDaa_eq s⟩

/-- Settles O17: DAA after the 9-bit sum and after the 9-bit difference of two decimal bytes. -/
theorem decimalArithmeticIsExact : Obligations.DecimalArithmeticIsExact := by
  intro x y s hx hy ha
  obtain ⟨-, -, addImm⟩ := aluForms s.regs.afterAlu_add .a (bcd y)
  obtain ⟨-, -, subImm⟩ := aluForms s.regs.afterAlu_sub .a (bcd y)
  exact ⟨⟨_, _, addImm, execDaa_eq _, RegFile.afterDaa_afterAdd_bcd hx hy ha⟩,
    ⟨_, _, subImm, execDaa_eq _, RegFile.afterDaa_afterSub_bcd hx hy ha⟩⟩

/-- Settles O18: complementing is the exclusive or with 0xFF, and the flag writes are one update of F. -/
theorem complementAndCarryFlag : Obligations.ComplementAndCarryFlag := fun s =>
  ⟨rfl, execCpl_eq s, execScf_eq s, execCcf_eq s⟩

end Sys2Proof.Machine

/-! PROOFS. The statements about 16-bit arithmetic (44_alu_16bit.md): the steps of a pair are one write of the pair, and
`ADD HL,r16` writes the register file alone. -/

namespace Sys2Proof.Machine

/-! ### What each shared operation answers -/

theorem State.pair_begin (s : State) (c : Nat) (p : Reg16) : (s.begin c).pair p = s.pair p := by
  cases p <;> rfl

theorem incPair_eq (p : Reg16) (s : State) : incPair p s = .next ((s.putPair p (s.pair p + 1)).done 1 8) := by
  apply runRule_eq_done
  rw [State.pair_begin, State.putPair_begin]

theorem decPair_eq (p : Reg16) (s : State) : decPair p s = .next ((s.putPair p (s.pair p - 1)).done 1 8) := by
  apply runRule_eq_done
  rw [State.pair_begin, State.putPair_begin]

/-- Exceeding the low 12 bits is reaching 2^12 (rule R157). -/
theorem addHlHalf_eq (hl v : Word) : addHlHalf hl v = decide (hl.toNat % 4096 + v.toNat % 4096 ≥ 4096) :=
  decide_eq_decide.mpr Nat.lt_iff_add_one_le

/-- Exceeding 16 bits is reaching 2^16 (rule R157). -/
theorem addHlCarry_eq (hl v : Word) : addHlCarry hl v = decide (hl.toNat + v.toNat ≥ 65536) :=
  decide_eq_decide.mpr Nat.lt_iff_add_one_le

/-- HL is written after the flags, and the pair is read from the state before, so `ADD HL,HL` adds the old HL to itself
(rule R157). -/
theorem addHlPair_eq (p : Reg16) (s : State) :
    addHlPair p s =
      .next { s.done 1 8 with
        regs := (s.regs.putHl (s.regs.hl + s.pair p)).flags (flagZ s.regs.f) false (addHlHalf s.regs.hl (s.pair p))
          (addHlCarry s.regs.hl (s.pair p)) } := by
  apply runRule_eq_regs
  rw [State.pair_begin, State.putNHC_flags]; rfl

/-! ### The rows of the pair forms, by their operand codes (rule R69) -/

theorem encode_mkIncPair (p : Reg16) : encode (mkIncPair p) = [byteOf (0x03 + 16 * codeOfPair p)] := by
  cases p <;> rfl

theorem encode_mkDecPair (p : Reg16) : encode (mkDecPair p) = [byteOf (0x0B + 16 * codeOfPair p)] := by
  cases p <;> rfl

theorem encode_mkAddHl (p : Reg16) : encode (mkAddHl p) = [byteOf (0x09 + 16 * codeOfPair p)] := by
  cases p <;> rfl

theorem exec_mkIncPair (p : Reg16) (s : State) : exec (mkIncPair p) s = incPair p s := by
  cases p <;> rfl

theorem exec_mkDecPair (p : Reg16) (s : State) : exec (mkDecPair p) s = decPair p s := by
  cases p <;> rfl

theorem exec_mkAddHl (p : Reg16) (s : State) : exec (mkAddHl p) s = addHlPair p s := by
  cases p <;> rfl

/-! ### The statements -/

/-- Settles O19: every row is the shared step of its pair, which writes the pair alone. -/
theorem pairIncrementAndDecrement : Obligations.PairIncrementAndDecrement := fun p s =>
  ⟨encode_mkIncPair p, encode_mkDecPair p, (exec_mkIncPair p s).trans (incPair_eq p s),
    (exec_mkDecPair p s).trans (decPair_eq p s)⟩

/-- Settles O20: every row is the shared addition of its pair, with both carries as the sums that reach a power of two. -/
theorem addPairToHl : Obligations.AddPairToHl := by
  intro p s v
  rw [← addHlHalf_eq, ← addHlCarry_eq]
  exact ⟨encode_mkAddHl p, (exec_mkAddHl p s).trans (addHlPair_eq p s)⟩

end Sys2Proof.Machine

/-! PROOFS. The statements about rotates, shifts and single bits (45_rotate_shift_bit.md): a bit is a digit of the byte's
number and a rotate is a shift with the freed bits filled, so each form is one update of the register file or one CPU
store. -/

namespace Sys2Proof.Machine

/-! ### Bits and shifts as arithmetic -/

theorem getLsbD_eq_decide (v : Byte) (i : Nat) : v.getLsbD i = decide (v.toNat / 2 ^ i % 2 = 1) :=
  Nat.testBit_eq_decide_div_mod_eq

theorem not_getLsbD_eq_decide (v : Byte) (i : Nat) : (!v.getLsbD i) = decide (v.toNat / 2 ^ i % 2 = 0) := by
  rw [getLsbD_eq_decide, ← decide_not, decide_eq_decide]
  exact Nat.mod_two_ne_one

theorem getLsbD_zero_eq_decide (v : Byte) : v.getLsbD 0 = decide (v.toNat % 2 = 1) := Nat.testBit_zero v.toNat

/-- Nothing stands above bit 7, so it is the whole quotient by 128. -/
theorem getLsbD_seven_eq_decide (v : Byte) : v.getLsbD 7 = decide (v.toNat / 128 = 1) := by
  have hv := v.isLt
  rw [getLsbD_eq_decide, decide_eq_decide]
  omega

theorem shiftLeft_eq_byteOf (v : Byte) (k : Nat) : v <<< k = byteOf (2 ^ k * v.toNat) := by
  apply BitVec.eq_of_toNat_eq
  rw [BitVec.toNat_shiftLeft, byteOf_toNat, Nat.shiftLeft_eq, Nat.mul_comm]

theorem ushiftRight_toNat (v : Byte) (k : Nat) : (v >>> k).toNat = v.toNat / 2 ^ k := by
  rw [BitVec.toNat_ushiftRight, Nat.shiftRight_eq_div_pow]

theorem ushiftRight_eq_byteOf (v : Byte) (k : Nat) : v >>> k = byteOf (v.toNat / 2 ^ k) := by
  rw [← ushiftRight_toNat, byteOf, BitVec.ofNat_toNat, BitVec.setWidth_eq]

/-- The bits a left shift frees are filled by addition. -/
theorem shiftLeft_or_eq_byteOf (v : Byte) {low : Byte} {k : Nat} (h : low.toNat < 2 ^ k) :
    (v <<< k) ||| low = byteOf (2 ^ k * v.toNat + low.toNat) := by
  rw [Nat.two_pow_add_eq_or_of_lt h, byteOf, BitVec.ofNat_or, BitVec.ofNat_toNat, BitVec.setWidth_eq,
    shiftLeft_eq_byteOf, byteOf]

/-- The bit a right shift frees is filled by addition. -/
theorem ushiftRight_one_or_bitByte (v : Byte) (b : Bool) :
    (v >>> 1) ||| (bitByte b <<< 7) = byteOf (v.toNat / 2 + 128 * b.toNat) := by
  have hlow : (v >>> 1).toNat = v.toNat / 2 := ushiftRight_toNat v 1
  have hv := v.isLt
  rw [BitVec.or_comm, shiftLeft_or_eq_byteOf _ (by omega), bitByte_toNat, hlow, Nat.add_comm]; rfl

theorem shiftLeft_one_or_bitByte (v : Byte) (b : Bool) :
    (v <<< 1) ||| bitByte b = byteOf (2 * v.toNat + b.toNat) := by
  have hb := b.toNat_lt
  rw [← bitByte_toNat] at hb ⊢
  exact shiftLeft_or_eq_byteOf v hb

theorem and_bit_seven (v : Byte) : v &&& 0x80#8 = bitByte (v.getLsbD 7) <<< 7 := by
  refine (BitVec.and_twoPow v 7).trans ?_
  cases v.getLsbD 7 <;> rfl

/-- The nibbles move to multiples of 16 and back; what the left shift loses is a multiple of 256. -/
theorem swap_eq_byteOf (v : Byte) : (v <<< 4) ||| (v >>> 4) = byteOf (16 * (v.toNat % 16) + v.toNat / 16) := by
  have hlow : (v >>> 4).toNat = v.toNat / 16 := ushiftRight_toNat v 4
  have hv := v.isLt
  rw [shiftLeft_or_eq_byteOf _ (by omega), hlow]
  apply BitVec.eq_of_toNat_eq
  rw [byteOf_toNat, byteOf_toNat]
  omega

/-- Each rotate or shift is its arithmetic on the byte's number (rules R161 to R180). -/
theorem rotEval_eq_rotClosed (op : RotOp) (v : Byte) (cin : Bool) : rotEval op v cin = rotClosed op v cin := by
  have hv := v.isLt
  have top : (v.getLsbD 7).toNat = v.toNat / 128 :=
    (Nat.toNat_testBit v.toNat 7).trans (Nat.mod_eq_of_lt (by omega))
  have bottom : (v.getLsbD 0).toNat = v.toNat % 2 :=
    (Nat.toNat_testBit v.toNat 0).trans (by rw [Nat.pow_zero, Nat.div_one])
  cases op with
  | rlc => exact Prod.ext ((shiftLeft_one_or_bitByte v _).trans (by rw [top]; rfl)) (getLsbD_seven_eq_decide v)
  | rrc => exact Prod.ext ((ushiftRight_one_or_bitByte v _).trans (by rw [bottom]; rfl)) (getLsbD_zero_eq_decide v)
  | rl => exact Prod.ext (shiftLeft_one_or_bitByte v cin) (getLsbD_seven_eq_decide v)
  | rr => exact Prod.ext (ushiftRight_one_or_bitByte v cin) (getLsbD_zero_eq_decide v)
  | sla => exact Prod.ext (shiftLeft_eq_byteOf v 1) (getLsbD_seven_eq_decide v)
  | sra =>
    refine Prod.ext ?_ (getLsbD_zero_eq_decide v)
    rw [rotEval, and_bit_seven, ushiftRight_one_or_bitByte, top]; rfl
  | swap => exact Prod.ext (swap_eq_byteOf v) rfl
  | srl => exact Prod.ext (ushiftRight_eq_byteOf v 1) (getLsbD_zero_eq_decide v)

/-- The number of a single bit's mask. -/
theorem one_shiftLeft_eq_byteOf (b : Fin 8) : (1 : Byte) <<< b.val = byteOf (2 ^ b.val) := by
  rw [shiftLeft_eq_byteOf, show (1 : Byte).toNat = 1 from rfl, Nat.mul_one]

theorem clearBit_eq (b : Fin 8) (v : Byte) : clearBit b v = v &&& ~~~byteOf (2 ^ b.val) := by
  rw [clearBit, one_shiftLeft_eq_byteOf]

theorem setBit_eq (b : Fin 8) (v : Byte) : setBit b v = v ||| byteOf (2 ^ b.val) := by
  rw [setBit, one_shiftLeft_eq_byteOf]

/-! ### What each shared operation answers -/

/-- A store, then the four flags: the store leaves the flags the operation reads (rules R51, R159). -/
theorem State.writeU8_putFlags_begin (s : State) (cycles : Nat) (a : Word) (v : Byte) (z n h c : Bool) :
    ((s.begin cycles).writeU8 a v).putFlags z n h c =
      { s.writeU8 a v with regs := s.regs.flags z n h c }.begin cycles := by
  rw [State.writeU8_begin, State.putFlags_eq, State.begin_regs, State.writeU8_regs]; rfl

theorem accRotate_eq (op : RotOp) (s : State) :
    accRotate op s =
      let r := rotClosed op s.regs.a (flagC s.regs.f)
      .next { s.done 1 4 with regs := { s.regs with a := r.1 }.flags s.accZ false false r.2 } := by
  rw [← rotEval_eq_rotClosed]
  exact runRule_eq_regs (State.putFlags_eq _ _ _ _ _)

theorem rotReg_eq (op : RotOp) (dst : Reg8) (s : State) :
    rotReg op dst s =
      let r := rotClosed op (s.regs.get dst) (flagC s.regs.f)
      .next { s.done 2 8 with regs := (s.regs.put dst r.1).flags (decide (r.1 = 0)) false false r.2 } := by
  rw [← rotEval_eq_rotClosed]
  exact runRule_eq_regs (State.putFlags_eq _ _ _ _ _)

theorem rotAtHl_eq (op : RotOp) (s : State) :
    rotAtHl op s =
      let r := rotClosed op (s.readU8 s.regs.hl) (flagC s.regs.f)
      .next { (s.writeU8 s.regs.hl r.1).done 2 16 with
        regs := s.regs.flags (decide (r.1 = 0)) false false r.2 } := by
  rw [← rotEval_eq_rotClosed]
  exact runRule_eq_done (t := { s.writeU8 s.hl _ with regs := s.regs.flags _ _ _ _ })
    (s.writeU8_putFlags_begin 16 _ _ _ _ _ _)

/-- A bit test of `v`, which writes Z, N and Hf alone (rules R181, R182). -/
theorem runRule_bitTest (c b : Nat) (v : State → Byte) (s : State) :
    runRule 2 c (fun t => t.putZNH (!(v t).getLsbD b) false true) s =
      .next { s.done 2 c with
        regs := s.regs.flags (decide ((v (s.begin c)).toNat / 2 ^ b % 2 = 0)) false true (flagC s.regs.f) } := by
  rw [← not_getLsbD_eq_decide]
  exact runRule_eq_regs (State.putZNH_flags _ _ _ _)

theorem bitReg_eq (b : Fin 8) (r : Reg8) (s : State) :
    bitReg b r s =
      .next { s.done 2 8 with
        regs := s.regs.flags (decide ((s.regs.get r).toNat / 2 ^ b.val % 2 = 0)) false true (flagC s.regs.f) } :=
  runRule_bitTest 8 b.val (fun t => t.reg r) s

theorem bitAtHl_eq (b : Fin 8) (s : State) :
    bitAtHl b s =
      .next { s.done 2 12 with
        regs := s.regs.flags (decide ((s.readU8 s.regs.hl).toNat / 2 ^ b.val % 2 = 0)) false true (flagC s.regs.f) } :=
  runRule_bitTest 12 b.val (fun t => t.readU8 t.hl) s

theorem resReg_eq (b : Fin 8) (r : Reg8) (s : State) :
    resReg b r s =
      .next { s.done 2 8 with regs := s.regs.put r (s.regs.get r &&& ~~~byteOf (2 ^ b.val)) } := by
  rw [← clearBit_eq]
  exact runRule_eq_regs rfl

theorem setReg_eq (b : Fin 8) (r : Reg8) (s : State) :
    setReg b r s = .next { s.done 2 8 with regs := s.regs.put r (s.regs.get r ||| byteOf (2 ^ b.val)) } := by
  rw [← setBit_eq]
  exact runRule_eq_regs rfl

theorem resAtHl_eq (b : Fin 8) (s : State) :
    resAtHl b s =
      .next ((s.writeU8 s.regs.hl (s.readU8 s.regs.hl &&& ~~~byteOf (2 ^ b.val))).done 2 16) := by
  rw [← clearBit_eq]
  exact runRule_eq_done (s.writeU8_begin 16 _ _)

theorem setAtHl_eq (b : Fin 8) (s : State) :
    setAtHl b s = .next ((s.writeU8 s.regs.hl (s.readU8 s.regs.hl ||| byteOf (2 ^ b.val))).done 2 16) := by
  rw [← setBit_eq]
  exact runRule_eq_done (s.writeU8_begin 16 _ _)

/-! ### The rows of the prefixed map, by their operation, bit and operand codes (rules R68, R72, R76) -/

theorem encode_mkRotReg (op : RotOp) (dst : Reg8) :
    encode (mkRotReg op dst) = [0xCB, byteOf (8 * codeOfRot op + codeOfReg dst)] := by
  cases op <;> cases dst <;> rfl

theorem encode_mkRotAtHl (op : RotOp) : encode (mkRotAtHl op) = [0xCB, byteOf (8 * codeOfRot op + 6)] := by
  cases op <;> rfl

theorem encode_mkBitReg (b : Fin 8) (r : Reg8) :
    encode (mkBitReg b r) = [0xCB, byteOf (0x40 + 8 * b.val + codeOfReg r)] := by
  fin_cases b <;> cases r <;> rfl

theorem encode_mkBitAtHl (b : Fin 8) : encode (mkBitAtHl b) = [0xCB, byteOf (0x46 + 8 * b.val)] := by
  fin_cases b <;> rfl

theorem encode_mkResReg (b : Fin 8) (r : Reg8) :
    encode (mkResReg b r) = [0xCB, byteOf (0x80 + 8 * b.val + codeOfReg r)] := by
  fin_cases b <;> cases r <;> rfl

theorem encode_mkResAtHl (b : Fin 8) : encode (mkResAtHl b) = [0xCB, byteOf (0x86 + 8 * b.val)] := by
  fin_cases b <;> rfl

theorem encode_mkSetReg (b : Fin 8) (r : Reg8) :
    encode (mkSetReg b r) = [0xCB, byteOf (0xC0 + 8 * b.val + codeOfReg r)] := by
  fin_cases b <;> cases r <;> rfl

theorem encode_mkSetAtHl (b : Fin 8) : encode (mkSetAtHl b) = [0xCB, byteOf (0xC6 + 8 * b.val)] := by
  fin_cases b <;> rfl

theorem exec_mkRotReg (op : RotOp) (dst : Reg8) (s : State) : exec (mkRotReg op dst) s = rotReg op dst s := by
  cases op <;> cases dst <;> rfl

theorem exec_mkRotAtHl (op : RotOp) (s : State) : exec (mkRotAtHl op) s = rotAtHl op s := by
  cases op <;> rfl

theorem exec_mkBitReg (b : Fin 8) (r : Reg8) (s : State) : exec (mkBitReg b r) s = bitReg b r s := by
  fin_cases b <;> cases r <;> rfl

theorem exec_mkBitAtHl (b : Fin 8) (s : State) : exec (mkBitAtHl b) s = bitAtHl b s := by
  fin_cases b <;> rfl

theorem exec_mkResReg (b : Fin 8) (r : Reg8) (s : State) : exec (mkResReg b r) s = resReg b r s := by
  fin_cases b <;> cases r <;> rfl

theorem exec_mkResAtHl (b : Fin 8) (s : State) : exec (mkResAtHl b) s = resAtHl b s := by
  fin_cases b <;> rfl

theorem exec_mkSetReg (b : Fin 8) (r : Reg8) (s : State) : exec (mkSetReg b r) s = setReg b r s := by
  fin_cases b <;> cases r <;> rfl

theorem exec_mkSetAtHl (b : Fin 8) (s : State) : exec (mkSetAtHl b) s = setAtHl b s := by
  fin_cases b <;> rfl

/-! ### The statements -/

/-- Settles O21: the four forms are one shared rotate of A, with Z as the configuration has it. -/
theorem accumulatorRotates : Obligations.AccumulatorRotates := fun s =>
  ⟨rfl, accRotate_eq .rlc s, accRotate_eq .rrc s, accRotate_eq .rl s, accRotate_eq .rr s⟩

/-- Settles O22: every row is the shared rotate of its register, by the arithmetic of its operation. -/
theorem registerRotates : Obligations.RegisterRotates := fun op dst s =>
  ⟨encode_mkRotReg op dst, (exec_mkRotReg op dst s).trans (rotReg_eq op dst s)⟩

/-- Settles O23: every row is the shared rotate at HL, one CPU store and then the flags. -/
theorem memoryRotates : Obligations.MemoryRotates := fun op s =>
  ⟨encode_mkRotAtHl op, (exec_mkRotAtHl op s).trans (rotAtHl_eq op s)⟩

/-- Settles O24: both forms test one digit of the byte's number and write flags alone. -/
theorem bitTests : Obligations.BitTests := fun b r s =>
  ⟨encode_mkBitReg b r, encode_mkBitAtHl b, (exec_mkBitReg b r s).trans (bitReg_eq b r s),
    (exec_mkBitAtHl b s).trans (bitAtHl_eq b s)⟩

/-- Settles O25: every row is the shared operation of its operand, which masks one bit. -/
theorem bitResetAndSet : Obligations.BitResetAndSet := by
  intro b r s
  rw [encode_mkResReg, encode_mkSetReg, encode_mkResAtHl, encode_mkSetAtHl]
  exact ⟨rfl, (exec_mkResReg b r s).trans (resReg_eq b r s), (exec_mkSetReg b r s).trans (setReg_eq b r s),
    (exec_mkResAtHl b s).trans (resAtHl_eq b s), (exec_mkSetAtHl b s).trans (setAtHl_eq b s)⟩

end Sys2Proof.Machine

/-! PROOFS. The statements about control flow (46_control_flow.md): every form is a rule that ends in one transfer of
control, a conditional form runs that rule only if its condition holds. -/

namespace Sys2Proof.Machine

/-! ### Rules that transfer control -/

/-- A rule that ends in a transfer to `a` suppresses the advance of PC, so its length plays no part (rules R86, R87). -/
theorem runRule_eq_goto {len c : Nat} {rule : State → State} {s t : State} {a : Word}
    (h : rule (s.begin c) = (t.begin c).jump a) : runRule len c rule s = .next (t.goto a c) := by
  rw [runRule, h]; rfl

/-- A conditional transfer: the condition decides between the transfer with its own count and a step that only passes
the instruction (rules R86, R88, R187). -/
theorem runRule_when_eq {cc : Cond} {len c taken : Nat} {rule : State → State} {s t : State} {a : Word}
    (h : rule (s.begin c) = (t.begin c).jump a) :
    runRule len c (fun u => u.when cc taken rule) s =
      .next (if condHolds cc s.regs.f then t.goto a taken else s.done len c) := by
  rw [runRule, State.when, State.begin_regs]
  split
  · rw [h]; rfl
  · rfl

/-! ### The shared transfers, with the cycle count as the step begins it -/

/-- A call is a push of the next instruction's address and a transfer (rules R193, R195). -/
theorem State.call_begin (s : State) (c len : Nat) (a : Word) :
    (s.begin c).call len a = ((s.push16 (s.nextPc len)).begin c).jump a := by
  rw [State.call, State.push16_begin]; rfl

/-- A return is a transfer to the word at SP, with SP + 2 (rule R196). -/
theorem State.popPc_begin (s : State) (c : Nat) :
    (s.begin c).popPc = ({ s with sp := s.sp + 2 }.begin c).jump s.popValue := by
  rw [State.popPc, State.popped_eq]; rfl

/-- RETI is the return with IME set (rule R198). -/
theorem State.returnInterrupt_begin (s : State) (c : Nat) :
    (s.begin c).returnInterrupt = ({ s with sp := s.sp + 2, ime := true }.begin c).jump s.popValue := by
  rw [State.returnInterrupt, State.popped_eq]; rfl

/-- The vector, a product of words in the model, is the word of the product of numbers (rule R195). -/
theorem restartVector_eq (y : Fin 8) : 8#16 * BitVec.ofNat 16 y.val = BitVec.ofNat 16 (8 * y.val) :=
  (BitVec.ofNat_mul _ _).symm

/-! ### What each shared operation answers -/

theorem jumpRelIf_eq (cc : Cond) (n : Byte) (s : State) :
    jumpRelIf cc n s =
      .next (if condHolds cc s.regs.f then s.goto (s.nextPc 2 + sext16 n) 12 else s.done 2 8) :=
  runRule_when_eq rfl

theorem jumpIf_eq (cc : Cond) (nn : Word) (s : State) :
    jumpIf cc nn s = .next (if condHolds cc s.regs.f then s.goto nn 16 else s.done 3 12) :=
  runRule_when_eq rfl

theorem callIf_eq (cc : Cond) (nn : Word) (s : State) :
    callIf cc nn s =
      .next (if condHolds cc s.regs.f then (s.push16 (s.nextPc 3)).goto nn 24 else s.done 3 12) :=
  runRule_when_eq (s.call_begin 12 3 nn)

theorem returnIf_eq (cc : Cond) (s : State) :
    returnIf cc s =
      .next (if condHolds cc s.regs.f then { s with sp := s.sp + 2 }.goto s.popValue 20 else s.done 1 8) :=
  runRule_when_eq (s.popPc_begin 8)

theorem restart_eq (y : Fin 8) (s : State) :
    restart y s = .next ((s.push16 (s.nextPc 1)).goto (BitVec.ofNat 16 (8 * y.val)) 16) := by
  rw [← restartVector_eq]
  exact runRule_eq_goto (s.call_begin 16 1 _)

theorem execJrE8_eq (n : Byte) (s : State) : execJrE8 n s = .next (s.goto (s.nextPc 2 + sext16 n) 12) :=
  runRule_eq_goto rfl

theorem execJpA16_eq (nn : Word) (s : State) : execJpA16 nn s = .next (s.goto nn 16) :=
  runRule_eq_goto rfl

theorem execJpHl_eq (s : State) : execJpHl s = .next (s.goto s.regs.hl 4) :=
  runRule_eq_goto rfl

theorem execCallA16_eq (nn : Word) (s : State) :
    execCallA16 nn s = .next ((s.push16 (s.nextPc 3)).goto nn 24) :=
  runRule_eq_goto (s.call_begin 24 3 nn)

theorem execRet_eq (s : State) : execRet s = .next ({ s with sp := s.sp + 2 }.goto s.popValue 16) :=
  runRule_eq_goto (s.popPc_begin 16)

theorem execReti_eq (s : State) :
    execReti s = .next ({ s with sp := s.sp + 2, ime := true }.goto s.popValue 16) :=
  runRule_eq_goto (s.returnInterrupt_begin 16)

/-! ### The rows of the conditional forms and of RST, by their codes (rules R70, R195) -/

theorem encode_mkJrCond (cc : Cond) (n : Byte) :
    encode (mkJrCond cc n) = [byteOf (0x20 + 8 * codeOfCond cc), n] := by
  cases cc <;> rfl

theorem encode_mkJpCond (cc : Cond) (nn : Word) :
    encode (mkJpCond cc nn) = [byteOf (0xC2 + 8 * codeOfCond cc), loByte nn, hiByte nn] := by
  cases cc <;> rfl

theorem encode_mkCallCond (cc : Cond) (nn : Word) :
    encode (mkCallCond cc nn) = [byteOf (0xC4 + 8 * codeOfCond cc), loByte nn, hiByte nn] := by
  cases cc <;> rfl

theorem encode_mkRetCond (cc : Cond) : encode (mkRetCond cc) = [byteOf (0xC0 + 8 * codeOfCond cc)] := by
  cases cc <;> rfl

theorem encode_mkRst (y : Fin 8) : encode (mkRst y) = [byteOf (0xC7 + 8 * y.val)] := by
  fin_cases y <;> rfl

theorem exec_mkJrCond (cc : Cond) (n : Byte) (s : State) : exec (mkJrCond cc n) s = jumpRelIf cc n s := by
  cases cc <;> rfl

theorem exec_mkJpCond (cc : Cond) (nn : Word) (s : State) : exec (mkJpCond cc nn) s = jumpIf cc nn s := by
  cases cc <;> rfl

theorem exec_mkCallCond (cc : Cond) (nn : Word) (s : State) : exec (mkCallCond cc nn) s = callIf cc nn s := by
  cases cc <;> rfl

theorem exec_mkRetCond (cc : Cond) (s : State) : exec (mkRetCond cc) s = returnIf cc s := by
  cases cc <;> rfl

theorem exec_mkRst (y : Fin 8) (s : State) : exec (mkRst y) s = restart y s := by
  fin_cases y <;> rfl

/-! ### The statements -/

/-- Settles O26: both forms transfer to the next instruction's address plus the offset, JR cc under its condition. -/
theorem relativeJumps : Obligations.RelativeJumps := fun cc n s =>
  ⟨rfl, encode_mkJrCond cc n, execJrE8_eq n s, (exec_mkJrCond cc n s).trans (jumpRelIf_eq cc n s)⟩

/-- Settles O27: the three forms transfer to the operand or to HL, JP cc under its condition. -/
theorem absoluteJumps : Obligations.AbsoluteJumps := fun cc nn s =>
  ⟨rfl, rfl, encode_mkJpCond cc nn, execJpA16_eq nn s, execJpHl_eq s,
    (exec_mkJpCond cc nn s).trans (jumpIf_eq cc nn s)⟩

/-- Settles O28: the three forms are one push of the next instruction's address and a transfer, CALL cc under its
condition; the push is its two stores and SP - 2 (rule R61). -/
theorem callsAndRestarts : Obligations.CallsAndRestarts := by
  intro cc y nn s push
  have hpush (v : Word) : push v = s.push16 v := (s.push16_eq v).symm
  rw [hpush, hpush]
  exact ⟨rfl, encode_mkCallCond cc nn, encode_mkRst y, execCallA16_eq nn s,
    (exec_mkCallCond cc nn s).trans (callIf_eq cc nn s), (exec_mkRst y s).trans (restart_eq y s)⟩

/-- Settles O29: the three forms are one pop and a transfer to the word popped, RET cc under its condition; RETI also
writes IME. -/
theorem returns : Obligations.Returns := fun cc s =>
  ⟨rfl, rfl, encode_mkRetCond cc, execRet_eq s, execReti_eq s, (exec_mkRetCond cc s).trans (returnIf_eq cc s)⟩

end Sys2Proof.Machine

/-! PROOFS. The statements about the system instructions, the prefix and the undefined bytes (47_system.md), and about
the steps that run no instruction. -/

namespace Sys2Proof.Machine

/-! ### NOP, HALT, STOP, DI and EI -/

/-- HALT, and STOP under `halt_like`, pass the instruction and set `halted` (rules R200, R202). -/
theorem runRule_enterHalt (len c : Nat) (s : State) :
    runRule len c State.enterHalt s = .next { s.done len c with halted := true } :=
  runRule_eq_done (t := s.enterHalt) rfl

/-- DI and EI pass the instruction and write IME (rules R203, R204). -/
theorem runRule_putIme (len c : Nat) (v : Bool) (s : State) :
    runRule len c (fun t => t.putIme v) s = .next { s.done len c with ime := v } :=
  runRule_eq_done (t := s.putIme v) rfl

/-! ### The prefixed table -/

/-- The constructor of a prefixed entry means what the entry of that byte means (rules R72, R76). -/
theorem exec_decodePrefixed (op : Byte) (s : State) : exec (decodePrefixed op) s = prefixedEntry op s := by
  unfold decodePrefixed prefixedEntry
  cases Operand8.ofCode (fieldZ op) with
  | reg r =>
    match fieldX op with
    | 0 => exact exec_mkRotReg _ r s
    | 1 => exact exec_mkBitReg _ r s
    | 2 => exact exec_mkResReg _ r s
    | _ + 3 => exact exec_mkSetReg _ r s
  | atHl =>
    match fieldX op with
    | 0 => exact exec_mkRotAtHl _ s
    | 1 => exact exec_mkBitAtHl _ s
    | 2 => exact exec_mkResAtHl _ s
    | _ + 3 => exact exec_mkSetAtHl _ s

/-- Every prefixed entry passes its two bytes; none transfers control (rules R86, R205). -/
theorem prefixedEntry_pc (op : Byte) (s : State) : ∃ t, prefixedEntry op s = .next t ∧ t.pc = s.pc + 2 := by
  unfold prefixedEntry
  split
  · exact ⟨_, rotReg_eq _ _ s, rfl⟩
  · exact ⟨_, rotAtHl_eq _ s, by simp [State.done]⟩
  · exact ⟨_, bitReg_eq _ _ s, rfl⟩
  · exact ⟨_, bitAtHl_eq _ s, rfl⟩
  · exact ⟨_, resReg_eq _ _ s, rfl⟩
  · exact ⟨_, resAtHl_eq _ s, by simp [State.done]⟩
  · exact ⟨_, setReg_eq _ _ s, rfl⟩
  · exact ⟨_, setAtHl_eq _ s, by simp [State.done]⟩

/-! ### The undefined bytes -/

/-- The bytes the opcode table marks as undefined (rule R206). -/
def undefinedBytes : List Byte := [0xD3, 0xDB, 0xDD, 0xE3, 0xE4, 0xEB, 0xEC, 0xED, 0xF4, 0xFC, 0xFD]

theorem lengthOf_undefined : ∀ code ∈ undefinedBytes, lengthOf code = 1 := by decide

/-- Each undefined byte is decoded, whatever follows it, to the sentinel that raises its own code (rule R206). -/
theorem exec_decodeBytes_undefined {code : Byte} (h : code ∈ undefinedBytes) (b1 b2 : Byte) (s : State) :
    exec (decodeBytes code b1 b2) s = undefinedByte code s := by
  simp only [undefinedBytes, List.mem_cons, List.not_mem_nil, or_false] at h
  rcases h with rfl | rfl | rfl | rfl | rfl | rfl | rfl | rfl | rfl | rfl | rfl <;> rfl

/-! ### Steps that run no instruction, and steps that raise -/

theorem systemStep_faulted {s : State} {e : Fault} (h : s.fault = some e) : systemStep s = .fault e s := by
  unfold systemStep cpuStep; rw [h]

/-- Apart from the count it returns, the idle step leaves the CPU as it is (rule R201). -/
theorem State.haltIdle_eq (s : State) : s.haltIdle = { s with cycles := 4, skip := false } := rfl

theorem systemStep_halted {s : State} (hf : s.fault = none) (hh : s.halted = true) :
    systemStep s = .ok 4 (s.haltIdle.elapse 4) := by
  unfold systemStep cpuStep
  rw [hf, hh]
  exact State.finishStep_none (t := s.haltIdle) hf

/-- An error that the fetched instruction raises is the step's fault, and no time passes (rules R230, R244). -/
theorem systemStep_of_raise {s : State} {e : Fault} (hf : s.fault = none) (hh : s.halted = false)
    (h : exec s.fetched s = .next (s.raise e)) : systemStep s = .fault e (s.raise e) := by
  unfold systemStep cpuStep
  rw [hf, hh, if_neg Bool.false_ne_true, h]
  exact State.finishStep_some rfl

/-! ### The statements -/

/-- Settles O30: the four rules leave the signal and the count alone, so PC passes their byte. -/
theorem nopHaltDiEi : Obligations.NopHaltDiEi := fun s =>
  ⟨rfl, runRule_eq_done (rule := fun t => t) rfl, runRule_enterHalt 1 4 s, runRule_putIme 1 4 false s,
    runRule_putIme 1 4 true s⟩

/-- Settles O31, by the two values of `stop_behaviour`. -/
theorem stopByConfiguration : Obligations.StopByConfiguration := by
  refine fun n s => ⟨rfl, ?_⟩
  change stopByConfig s = _
  unfold stopByConfig
  cases s.config.stopBehaviour with
  | notImplemented => rfl
  | haltLike => exact runRule_enterHalt 2 4 s

/-- Settles O32: an undefined byte is one byte long and raises its code, which the step that fetches it reports. -/
theorem undefinedBytesFault : Obligations.UndefinedBytesFault := by
  intro s code b1 b2 hmem
  have hraise (c1 c2 : Byte) : exec (decodeBytes code c1 c2) s = .next (s.raise (.unrecognizedOpcode code false)) :=
    exec_decodeBytes_undefined hmem c1 c2 s
  refine ⟨?_, hraise b1 b2, fun hf hh hcode => ?_⟩
  · rw [(encodeOfDecode code b1 b2).2, lengthOf_undefined code hmem]
    rfl
  · have hfetched : exec s.fetched s = .next (s.raise (.unrecognizedOpcode code false)) := by
      rw [State.fetched, hcode]
      exact hraise _ _
    have hstep := systemStep_of_raise hf hh hfetched
    exact ⟨hstep, step_eq_fault.mpr ⟨_, hstep⟩⟩

/-- Settles O33: the prefix row and the decoded entry both mean `prefixedEntry`, which completes. -/
theorem prefixSelectsTheTable : Obligations.PrefixSelectsTheTable := by
  intro op b2 s
  obtain ⟨t, ht, hpc⟩ := prefixedEntry_pc op s
  obtain ⟨u, hu, heffect⟩ := prefixedEntry_effect op s
  obtain rfl : t = u := Host.Outcome.next.inj (ht.symm.trans hu)
  exact ⟨rfl, (decodePrefixed_encodedAs op).2, (exec_decodePrefixed op s).symm, t, ht, hpc, heffect.fault⟩

/-- Settles O38: the step and the frame driver report a recorded fault again; a halted step is the idle step and its 4
T-cycles. -/
theorem haltedAndFaultedSteps : Obligations.HaltedAndFaultedSteps := by
  refine fun s => ⟨fun e he => ?_, fun hf hh => ?_⟩
  · exact ⟨systemStep_faulted he, step_eq_fault.mpr ⟨s, systemStep_faulted he⟩, runFrame_faulted he⟩
  · exact step_eq_next.mpr ⟨4, s.haltIdle_eq ▸ systemStep_halted hf hh⟩

end Sys2Proof.Machine

/-! PROOFS. The statements about the pixel pipeline (50_pixel_pipeline.md): what the PPU may write, how the cycles of a
line and the lines of a frame pass, and what a line draws. -/

namespace Sys2Proof.Machine

/-! ### What the PPU writes (rules R226, R55) -/

/-- `t` is what some of the PPU's writes leave of `s`: a mode with its mirror in STAT, LY, and the PPU's own fields, the
palette excepted. -/
inductive PpuWrites (s : State) : State → Prop
  | nothing : PpuWrites s s
  | mode {t : State} (m : Mode) (h : PpuWrites s t) : PpuWrites s (t.setMode m)
  | ly {t : State} (v : Byte) (h : PpuWrites s t) : PpuWrites s (t.putLy v)
  | fields {t : State} (p : Ppu) (hp : p.palette = t.ppu.palette) (h : PpuWrites s t) : PpuWrites s { t with ppu := p }

namespace PpuWrites

variable {s t : State}

theorem enterOamScan (h : PpuWrites s t) : PpuWrites s t.enterOamScan := (h.mode .oamScan).fields _ rfl

theorem nextLy (h : PpuWrites s t) : PpuWrites s t.nextLy := h.ly _

theorem resetLine (h : PpuWrites s t) : PpuWrites s t.resetLine := h.fields _ rfl

theorem zeroLineCycles (h : PpuWrites s t) : PpuWrites s t.zeroLineCycles := h.fields _ rfl

theorem flipDiv (h : PpuWrites s t) : PpuWrites s t.flipDiv := h.fields _ rfl

theorem countCycle (h : PpuWrites s t) : PpuWrites s t.countCycle := h.fields _ rfl

theorem endOfLine (h : PpuWrites s t) : PpuWrites s t.endOfLine := by
  have hnext : PpuWrites s t.resetLine.nextLy := h.resetLine.nextLy
  unfold State.endOfLine State.enterLine
  split
  · exact hnext.mode _
  · exact hnext.enterOamScan

theorem vBlankLineEnd (h : PpuWrites s t) : PpuWrites s t.vBlankLineEnd := by
  have hnext : PpuWrites s t.zeroLineCycles.nextLy := h.zeroLineCycles.nextLy
  unfold State.vBlankLineEnd State.wrapLy
  split
  · exact (hnext.ly _).enterOamScan
  · exact hnext

theorem fetcherStep (h : PpuWrites s t) : PpuWrites s t.fetcherStep := by
  unfold State.fetcherStep
  split
  · exact h.fields _ rfl
  · exact h.fields _ rfl
  · exact h.fields _ rfl
  · refine h.fields _ ?_
    unfold Ppu.pushStage
    split <;> rfl

theorem fetchIfDue (h : PpuWrites s t) : PpuWrites s t.fetchIfDue := by
  unfold State.fetchIfDue
  split
  · exact h
  · exact h.fetcherStep

theorem pixelStep (h : PpuWrites s t) : PpuWrites s t.pixelStep := by
  unfold State.pixelStep
  split
  · exact h
  · split
    · exact h.fields _ rfl
    · exact h.fields _ rfl

theorem drawTick (h : PpuWrites s t) : PpuWrites s t.drawTick := by
  have hpixel : PpuWrites s t.flipDiv.fetchIfDue.pixelStep := h.flipDiv.fetchIfDue.pixelStep
  unfold State.drawTick State.endDrawing
  split
  · exact hpixel.mode _
  · exact hpixel

theorem modeTick (h : PpuWrites s t) : PpuWrites s t.modeTick := by
  unfold State.modeTick
  split
  · split
    · exact h.mode _
    · exact h
  · exact h.drawTick
  · split
    · exact h.endOfLine
    · exact h
  · split
    · exact h.vBlankLineEnd
    · exact h

theorem ppuTick (h : PpuWrites s t) : PpuWrites s t.ppuTick := by
  unfold State.ppuTick
  split
  · exact h.countCycle.modeTick
  · exact h

theorem updateGraphics (h : PpuWrites s t) (n : Nat) : PpuWrites s (t.updateGraphics n) := by
  induction n generalizing t with
  | zero => exact h
  | succ n ih => exact ih h.ppuTick

/-- Everything but the I/O bytes and the PPU's fields is as before. -/
theorem rest (h : PpuWrites s t) : { t with bus := { t.bus with io := s.bus.io }, ppu := s.ppu } = s := by
  induction h with
  | nothing => rfl
  | mode _ _ ih => exact ih
  | ly _ _ ih => exact ih
  | fields _ _ _ ih => exact ih

theorem palette (h : PpuWrites s t) : t.ppu.palette = s.ppu.palette := by
  induction h with
  | nothing => rfl
  | mode _ _ ih => exact ih
  | ly _ _ ih => exact ih
  | fields _ hp _ ih => exact hp.trans ih

theorem sound {banks : Nat} (hs : s.bus.Sound banks) (h : PpuWrites s t) : t.bus.Sound banks := by
  induction h with
  | nothing => exact hs
  | mode m _ ih => exact State.setMode_sound ih m
  | ly v _ ih => exact State.putLy_sound ih v
  | fields _ _ _ ih => exact ih

theorem io {banks : Nat} (hs : s.bus.Sound banks) (h : PpuWrites s t) {i : Nat} (hstat : i ≠ 0x41) (hly : i ≠ 0x44) :
    t.io i = s.io i := by
  induction h with
  | nothing => rfl
  | mode m h ih => exact (State.setMode_io (h.sound hs) m hstat).trans ih
  | ly v h ih => exact (State.io_putIo (h.sound hs) 0x44 i v).trans ((if_neg hly).trans ih)
  | fields _ _ _ ih => exact ih

/-- STAT[7:2] is as before. -/
theorem stat {banks : Nat} (hs : s.bus.Sound banks) (h : PpuWrites s t) : t.stat &&& 0xFC#8 = s.stat &&& 0xFC#8 := by
  induction h with
  | nothing => rfl
  | @mode t m h ih =>
    have hcode : m.code &&& 0xFC#8 = 0#8 := by cases m <;> rfl
    rw [State.setMode_stat (h.sound hs), BitVec.and_or_distrib_right, hcode, BitVec.and_assoc, BitVec.and_self,
      BitVec.or_zero, ih]
  | ly v h ih =>
    rw [State.stat, State.putLy, State.io_putIo (h.sound hs), if_neg (by decide)]
    exact ih
  | fields _ _ _ ih => exact ih

end PpuWrites

theorem State.updateGraphics_writes (s : State) (n : Nat) : PpuWrites s (s.updateGraphics n) :=
  PpuWrites.nothing.updateGraphics n

/-- Settles O50: each part of what the PPU's writes keep. -/
theorem ppuWritesOnlyItsOwn : Obligations.PpuWritesOnlyItsOwn := fun s n hs =>
  have h := s.updateGraphics_writes n
  ⟨h.rest, fun _ hstat hly => h.io hs hstat hly, h.stat hs, h.palette⟩

/-! ### The display off -/

theorem State.ppuTick_off {s : State} (h : s.lcdOn = false) : s.ppuTick = s := by
  rw [State.ppuTick, h, if_neg Bool.false_ne_true]

/-- Settles O49, by induction on the cycle count. -/
theorem displayOffIsNoOp : Obligations.DisplayOffIsNoOp := by
  intro s n h
  induction n with
  | zero => rfl
  | succ n ih => rw [State.updateGraphics, State.ppuTick_off h, ih]

/-! ### Cycles that only count (rules R209, R224) -/

theorem State.updateGraphics_add (s : State) (m n : Nat) :
    s.updateGraphics (m + n) = (s.updateGraphics m).updateGraphics n := by
  induction m generalizing s with
  | zero => rw [Nat.zero_add]; rfl
  | succ m ih => rw [Nat.add_right_comm]; exact ih s.ppuTick

theorem State.updateGraphics_succ (s : State) (n : Nat) : s.updateGraphics (n + 1) = (s.updateGraphics n).ppuTick :=
  s.updateGraphics_add n 1

theorem State.ppuTick_on {s : State} (h : s.lcdOn = true) : s.ppuTick = s.countCycle.modeTick := by
  rw [State.ppuTick, if_pos h]

theorem PpuWrites.lcdOn {s t : State} {banks : Nat} (hs : s.bus.Sound banks) (h : PpuWrites s t) :
    t.lcdOn = s.lcdOn := by
  rw [State.lcdOn, State.lcdOn, State.lcdc_eq, State.lcdc_eq, h.io hs (by decide) (by decide)]

theorem State.updateGraphics_lcdOn {s : State} (hs : s.PpuSound) (n : Nat) : (s.updateGraphics n).lcdOn = s.lcdOn :=
  (s.updateGraphics_writes n).lcdOn hs.bus

/-- The cycle of the line at which a mode that waits comes to its end (rule R209); Drawing does not wait. -/
def Mode.waitsUntil (m : Mode) : Nat :=
  match m with
  | .oamScan => Config.oamScanCycles
  | .drawingPixels => 0
  | .hBlank | .vBlank => Config.lineCycles

/-- At cycle `c` of the line. -/
def State.atCycle (s : State) (c : Nat) : State := { s with ppu := { s.ppu with lineCycles := c } }

@[simp] theorem State.atCycle_lcdOn (s : State) (c : Nat) : (s.atCycle c).lcdOn = s.lcdOn := rfl

@[simp] theorem State.atCycle_mode (s : State) (c : Nat) : (s.atCycle c).ppu.mode = s.ppu.mode := rfl

theorem State.modeTick_oamScan {s : State} (h : s.ppu.mode = .oamScan) :
    s.modeTick = if Config.oamScanCycles ≤ s.ppu.lineCycles then s.setMode .drawingPixels else s := by
  rw [State.modeTick, h]

theorem State.modeTick_drawingPixels {s : State} (h : s.ppu.mode = .drawingPixels) : s.modeTick = s.drawTick := by
  rw [State.modeTick, h]

theorem State.modeTick_hBlank {s : State} (h : s.ppu.mode = .hBlank) :
    s.modeTick = if Config.lineCycles ≤ s.ppu.lineCycles then s.endOfLine else s := by
  rw [State.modeTick, h]

theorem State.modeTick_vBlank {s : State} (h : s.ppu.mode = .vBlank) :
    s.modeTick = if Config.lineCycles ≤ s.ppu.lineCycles then s.vBlankLineEnd else s := by
  rw [State.modeTick, h]

theorem State.modeTick_waits {s : State} (h : s.ppu.lineCycles < s.ppu.mode.waitsUntil) : s.modeTick = s := by
  cases hm : s.ppu.mode <;> rw [hm] at h
  case oamScan => exact (State.modeTick_oamScan hm).trans (if_neg (Nat.not_le.mpr h))
  case drawingPixels => exact absurd h (Nat.not_lt_zero _)
  case hBlank => exact (State.modeTick_hBlank hm).trans (if_neg (Nat.not_le.mpr h))
  case vBlank => exact (State.modeTick_vBlank hm).trans (if_neg (Nat.not_le.mpr h))

/-- A mode that waits only counts the cycles before its end. -/
theorem State.updateGraphics_waits {s : State} (hon : s.lcdOn = true) (n : Nat)
    (h : s.ppu.lineCycles + n < s.ppu.mode.waitsUntil) : s.updateGraphics n = s.atCycle (s.ppu.lineCycles + n) := by
  induction n with
  | zero => rfl
  | succ n ih =>
    rw [State.updateGraphics_succ, ih (by omega), State.ppuTick_on (by simpa using hon)]
    exact State.modeTick_waits (s := s.atCycle (s.ppu.lineCycles + (n + 1))) h

/-- The cycle that ends a mode that waits. -/
theorem State.updateGraphics_end {s : State} (hon : s.lcdOn = true) (n : Nat)
    (h : s.ppu.lineCycles + n + 1 = s.ppu.mode.waitsUntil) :
    s.updateGraphics (n + 1) = (s.atCycle s.ppu.mode.waitsUntil).modeTick := by
  rw [State.updateGraphics_succ, State.updateGraphics_waits hon n (by omega), State.ppuTick_on (by simpa using hon),
    ← h]
  rfl

/-- The 80th cycle of a visible line begins Drawing (rule R212). -/
theorem State.updateGraphics_oamScan {s : State} (hon : s.lcdOn = true) (hm : s.ppu.mode = .oamScan)
    (h0 : s.ppu.lineCycles = 0) : s.updateGraphics 80 = (s.atCycle 80).setMode .drawingPixels := by
  rw [State.updateGraphics_end hon 79 (by rw [h0, hm]; rfl), hm, State.modeTick_oamScan (by simpa using hm)]
  rfl

/-! ### The scene of a line: what the fetcher reads (rules R217, R218) -/

/-- `t` shows the background that `s` shows: the registers and the VRAM it is read from, and the palette, are the
same. -/
structure SameScene (s t : State) : Prop where
  lcdc : t.lcdc = s.lcdc
  ly : t.ly = s.ly
  scy : t.scy = s.scy
  palette : t.ppu.palette = s.ppu.palette
  vram : ∀ a : Word, 0x8000 ≤ a.toNat → a.toNat ≤ 0x9FFF → t.readU8 a = s.readU8 a

theorem PpuWrites.sameScene {s t : State} {banks : Nat} (hs : s.bus.Sound banks) (h : PpuWrites s t)
    (hly : t.ly = s.ly) : SameScene s t where
  lcdc := by rw [State.lcdc_eq, State.lcdc_eq, h.io hs (by decide) (by decide)]
  ly := hly
  scy := by rw [State.scy_eq, State.scy_eq, h.io hs (by decide) (by decide)]
  palette := h.palette
  vram a h1 h2 := by
    rw [State.readU8_of_slot (State.slot_vram h1 h2), State.readU8_of_slot (State.slot_vram h1 h2)]
    exact (congrArg (fun u : State => u.bus.readSlot (.vram (a.toNat - 0x8000))) h.rest :)

/-- The address of the tile number at column `col` of the tile map. -/
def State.mapAddrAt (s : State) (col : BitVec 5) : Word :=
  s.mapBase + 32#16 * zext16 (s.bgRow >>> 3) + col.setWidth 16

/-- The address of the low plane byte of a tile's current row. -/
def State.rowAddrOf (s : State) (tile : Byte) : Word :=
  (if s.lcdc.getLsbD 4 then 0x8000#16 + 16#16 * zext16 tile else 0x9000#16 + 16#16 * sext16 tile) +
    2#16 * zext16 (s.bgRow &&& 7#8)

/-- The number of the `i`-th tile that the line beginning as `s` fetches. -/
def State.lineTile (s : State) (i : Nat) : Byte := s.readU8 (s.mapAddrAt (s.ppu.fetcherX + BitVec.ofNat 5 i))

/-- The address of the low plane byte of that tile's row. -/
def State.lineRow (s : State) (i : Nat) : Word := s.rowAddrOf (s.lineTile i)

/-- The `j`-th pixel of the background that the line fetches, before any is discarded. -/
def State.linePixel (s : State) (j : Nat) : Color := s.background s.ppu.fetcherX 0 j

namespace SameScene

variable {s t : State}

theorem trans {u : State} (h1 : SameScene s t) (h2 : SameScene t u) : SameScene s u :=
  ⟨h2.lcdc.trans h1.lcdc, h2.ly.trans h1.ly, h2.scy.trans h1.scy, h2.palette.trans h1.palette,
    fun a ha1 ha2 => (h2.vram a ha1 ha2).trans (h1.vram a ha1 ha2)⟩

theorem setMode {banks : Nat} (h : SameScene s t) (hb : t.bus.Sound banks) (m : Mode) : SameScene s (t.setMode m) := by
  have hly : (t.setMode m).ly = t.ly := by rw [State.ly_eq, State.ly_eq, State.setMode_io hb m (by decide)]
  exact h.trans ((PpuWrites.nothing.mode m).sameScene hb hly)

theorem of_bus {u : State} (h : SameScene s t) (hb : u.bus = t.bus) (hc : u.config = t.config)
    (hp : u.ppu.palette = t.ppu.palette) : SameScene s u :=
  ⟨(State.readU8_of_bus hb hc _).trans h.lcdc, (State.readU8_of_bus hb hc _).trans h.ly,
    (State.readU8_of_bus hb hc _).trans h.scy, hp.trans h.palette,
    fun a h1 h2 => (State.readU8_of_bus hb hc a).trans (h.vram a h1 h2)⟩

theorem tileMapAddr (h : SameScene s t) : t.tileMapAddr = s.mapAddrAt t.ppu.fetcherX := by
  simp only [State.tileMapAddr, State.mapAddrAt, State.mapBase, State.bgRow, h.lcdc, h.ly, h.scy]

theorem tileAddr (h : SameScene s t) : t.tileAddr = s.rowAddrOf t.ppu.tileNumber := by
  simp only [State.tileAddr, State.rowAddrOf, State.bgRow, h.lcdc, h.ly, h.scy]

end SameScene

/-! ### The addresses as numbers -/

theorem State.bgRow_toNat (s : State) : s.bgRow.toNat = (s.ly.toNat + s.scy.toNat) % 256 := BitVec.toNat_add _ _

theorem State.mapAddrAt_toNat (s : State) (col : BitVec 5) :
    (s.mapAddrAt col).toNat =
      (if s.lcdc.getLsbD 3 then 0x9C00 else 0x9800) + 32 * (s.bgRow.toNat / 8) + col.toNat := by
  have hrow := s.bgRow.isLt
  have hcol := col.isLt
  have hbase : s.mapBase.toNat = if s.lcdc.getLsbD 3 then 0x9C00 else 0x9800 := by
    unfold State.mapBase
    split <;> rfl
  have hz : (zext16 (s.bgRow >>> 3)).toNat = s.bgRow.toNat / 8 := by
    rw [zext16, BitVec.toNat_setWidth, ushiftRight_toNat]
    omega
  have hc : (col.setWidth 16).toNat = col.toNat := by
    rw [BitVec.toNat_setWidth]
    omega
  rw [State.mapAddrAt, BitVec.toNat_add, BitVec.toNat_add, BitVec.toNat_mul, hbase, hz, hc, BitVec.toNat_ofNat]
  split <;> omega

/-- The low plane byte's address: with LCDC[4] clear, tiles from 128 on lie below 0x9000 (rule R218). -/
theorem State.rowAddrOf_toNat (s : State) (tile : Byte) :
    (s.rowAddrOf tile).toNat =
      (if s.lcdc.getLsbD 4 then 0x8000 + 16 * tile.toNat
        else if tile.toNat < 128 then 0x9000 + 16 * tile.toNat else 0x8000 + 16 * tile.toNat) +
        2 * (s.bgRow.toNat % 8) := by
  have htile := tile.isLt
  have hz : (zext16 tile).toNat = tile.toNat := by
    rw [zext16, BitVec.toNat_setWidth]
    omega
  have hs : (sext16 tile).toNat = tile.toNat + if tile.toNat < 128 then 0 else 0xFF00 := by
    rw [sext16, BitVec.toNat_signExtend, BitVec.toNat_setWidth, BitVec.msb_eq_decide]
    simp only [decide_eq_true_eq]
    split_ifs <;> omega
  have h7 : (zext16 (s.bgRow &&& 7#8)).toNat = s.bgRow.toNat % 8 := by
    have h : (s.bgRow &&& 7#8).toNat = s.bgRow.toNat % 8 := Nat.and_two_pow_sub_one_eq_mod _ 3
    rw [zext16, BitVec.toNat_setWidth, h]
    omega
  rw [State.rowAddrOf, BitVec.toNat_add, BitVec.toNat_mul, h7]
  split
  · rw [BitVec.toNat_add, BitVec.toNat_mul, hz]
    simp only [BitVec.toNat_ofNat]
    omega
  · rw [BitVec.toNat_add, BitVec.toNat_mul, hs]
    simp only [BitVec.toNat_ofNat]
    split <;> omega

theorem State.mapAddrAt_vram (s : State) (col : BitVec 5) :
    0x8000 ≤ (s.mapAddrAt col).toNat ∧ (s.mapAddrAt col).toNat ≤ 0x9FFF := by
  have hrow := s.bgRow.isLt
  have hcol := col.isLt
  rw [State.mapAddrAt_toNat]
  split <;> omega

/-- Both plane bytes of a row lie in VRAM. -/
theorem State.rowAddrOf_vram (s : State) (tile : Byte) :
    0x8000 ≤ (s.rowAddrOf tile).toNat ∧ (s.rowAddrOf tile).toNat + 1 ≤ 0x9FFF := by
  have hrow := s.bgRow.isLt
  have htile := tile.isLt
  rw [State.rowAddrOf_toNat]
  split_ifs <;> omega

theorem State.lineTile_eq (s : State) (i : Nat) :
    s.lineTile i =
      s.readU8 (BitVec.ofNat 16 ((if s.lcdc.getLsbD 3 then 0x9C00 else 0x9800) + 32 * (s.bgRow.toNat / 8) +
        (s.ppu.fetcherX.toNat + i) % 32)) := by
  have hcol : (s.ppu.fetcherX + BitVec.ofNat 5 i).toNat = (s.ppu.fetcherX.toNat + i) % 32 := by
    rw [BitVec.toNat_add, BitVec.toNat_ofNat]
    omega
  rw [← hcol, ← State.mapAddrAt_toNat, BitVec.ofNat_toNat, BitVec.setWidth_eq]
  rfl

/-- The fetched pixel `8 i + m`: bit `7 - m` of the two plane bytes of tile `i`'s row, through the palette. -/
theorem State.linePixel_eq (s : State) (i m : Nat) (hm : m < 8) :
    s.linePixel (8 * i + m) =
      paletteColor s.ppu.palette ((s.readU8 (s.lineRow i + 1)).getLsbD (7 - m))
        ((s.readU8 (s.lineRow i)).getLsbD (7 - m)) := by
  have hdiv : (8 * i + m + 0) / 8 = i := by omega
  have hmod : (8 * i + m + 0) % 8 = m := by omega
  have haddr : BitVec.ofNat 16 (s.lineRow i).toNat = s.lineRow i := by rw [BitVec.ofNat_toNat, BitVec.setWidth_eq]
  have hlow : s.readU8 (s.lineRow i) = s.readU8 (BitVec.ofNat 16 (s.lineRow i).toNat) := by rw [haddr]
  have hhigh : s.readU8 (s.lineRow i + 1) = s.readU8 (BitVec.ofNat 16 ((s.lineRow i).toNat + 1)) := by
    rw [BitVec.ofNat_add, haddr]
    rfl
  rw [hlow, hhigh]
  simp only [State.lineRow, State.rowAddrOf_toNat, State.lineTile_eq, State.bgRow_toNat, State.linePixel,
    State.background, hdiv, hmod]

/-- The eight pixels that Push adds for tile `i` (rule R220). -/
theorem State.decodeRow_eq (s : State) (i : Nat) :
    decodeRow s.ppu.palette (s.readU8 (s.lineRow i + 1)) (s.readU8 (s.lineRow i)) =
      (List.range' (8 * i) 8).map s.linePixel := by
  rw [List.range'_eq_map_range, List.map_map]
  refine Eq.trans ?_ (List.map_congr_left fun m hm => (s.linePixel_eq i m (List.mem_range.mp hm)).symm)
  rfl

/-! ### The fetcher's contents (rules R216 to R220) -/

/-- The fetcher on its `i`-th tile of the line that began as `s`, with `r` of the tile's stages done. -/
structure Fetched (s : State) (p : Ppu) (i r : Nat) : Prop where
  column : p.fetcherX = s.ppu.fetcherX + BitVec.ofNat 5 i
  tile : 1 ≤ r → p.tileNumber = s.lineTile i
  low : 2 ≤ r → p.tileDataAddr = s.lineRow i ∧ p.tileLo = s.readU8 (s.lineRow i)
  high : 3 ≤ r → p.tileHi = s.readU8 (s.lineRow i + 1)

section
variable {s t : State} {i : Nat}

theorem Fetched.getTileNumber (hs : SameScene s t) (h : Fetched s t.ppu i 0)
    (hst : t.ppu.fetcherState = .getTileNumber) :
    Fetched s t.fetcherStep.ppu i 1 ∧ t.fetcherStep.ppu.fifo = t.ppu.fifo := by
  have htile : t.readU8 t.tileMapAddr = s.lineTile i := by
    obtain ⟨h1, h2⟩ := s.mapAddrAt_vram t.ppu.fetcherX
    rw [hs.tileMapAddr, hs.vram _ h1 h2, h.column]
    rfl
  rw [State.fetcherStep, hst]
  exact ⟨⟨h.column, fun _ => htile, (by omega), (by omega)⟩, rfl⟩

theorem Fetched.tileDataLow (hs : SameScene s t) (h : Fetched s t.ppu i 1)
    (hst : t.ppu.fetcherState = .tileDataLow) :
    Fetched s t.fetcherStep.ppu i 2 ∧ t.fetcherStep.ppu.fifo = t.ppu.fifo := by
  have haddr : t.tileAddr = s.lineRow i := by
    rw [hs.tileAddr, h.tile le_rfl]
    rfl
  obtain ⟨h1, h2⟩ := s.rowAddrOf_vram (s.lineTile i)
  have hlow : t.readU8 t.tileAddr = s.readU8 (s.lineRow i) := by
    rw [haddr]
    exact hs.vram _ h1 (Nat.le_of_succ_le h2)
  rw [State.fetcherStep, hst]
  exact ⟨⟨h.column, fun _ => h.tile le_rfl, fun _ => ⟨haddr, hlow⟩, (by omega)⟩, rfl⟩

theorem Fetched.tileDataHigh (hs : SameScene s t) (h : Fetched s t.ppu i 2)
    (hst : t.ppu.fetcherState = .tileDataHigh) :
    Fetched s t.fetcherStep.ppu i 3 ∧ t.fetcherStep.ppu.fifo = t.ppu.fifo := by
  obtain ⟨h1, h2⟩ := s.rowAddrOf_vram (s.lineTile i)
  have hnext : (s.lineRow i + 1).toNat = (s.lineRow i).toNat + 1 := by
    have hrow : (s.lineRow i).toNat + 1 ≤ 0x9FFF := h2
    bv_omega
  have hhigh : t.readU8 (t.ppu.tileDataAddr + 1) = s.readU8 (s.lineRow i + 1) := by
    rw [(h.low le_rfl).1]
    exact hs.vram _ (hnext ▸ Nat.le_succ_of_le h1) (hnext ▸ h2)
  rw [State.fetcherStep, hst]
  exact ⟨⟨h.column, fun _ => h.tile (by decide), fun _ => h.low le_rfl, fun _ => hhigh⟩, rfl⟩

/-- A Push that fires adds the eight pixels of its tile and goes on to the next column. -/
theorem Fetched.push (hs : SameScene s t) (h : Fetched s t.ppu i 3) (hst : t.ppu.fetcherState = .push)
    (hroom : t.ppu.fifo.length ≤ 8) :
    Fetched s t.fetcherStep.ppu (i + 1) 0 ∧
      t.fetcherStep.ppu.fifo = t.ppu.fifo ++ (List.range' (8 * i) 8).map s.linePixel := by
  have hpixels : decodeRow t.ppu.palette t.ppu.tileHi t.ppu.tileLo = (List.range' (8 * i) 8).map s.linePixel := by
    rw [hs.palette, h.high le_rfl, (h.low (by decide)).2, State.decodeRow_eq]
  have hcol : t.ppu.fetcherX + 1 = s.ppu.fetcherX + BitVec.ofNat 5 (i + 1) := by
    rw [h.column, BitVec.ofNat_add, BitVec.add_assoc]
    rfl
  rw [State.fetcherStep, hst]
  simp only [Ppu.pushStage, if_pos (show t.ppu.fifo.length ≤ Config.fifoCap - Config.fifoRefill from hroom), hpixels,
    and_true]
  exact ⟨hcol, (by omega), (by omega), (by omega)⟩

end

/-- The fetcher after `f + 1` steps of the line, and what the last of them pushed. -/
theorem Fetched.step {s t : State} {f : Nat} (hs : SameScene s t) (h : Fetched s t.ppu (f / 4) (f % 4))
    (hst : t.ppu.fetcherState = stageAfter f) (hroom : t.ppu.fifo.length ≤ 8) :
    Fetched s t.fetcherStep.ppu ((f + 1) / 4) ((f + 1) % 4) ∧
      t.fetcherStep.ppu.fifo =
        t.ppu.fifo ++ if f % 4 = 3 then (List.range' (8 * (f / 4)) 8).map s.linePixel else [] := by
  have h4 : f % 4 = 0 ∨ f % 4 = 1 ∨ f % 4 = 2 ∨ f % 4 = 3 := by omega
  unfold stageAfter at hst
  rcases h4 with e | e | e | e <;> rw [e] at h hst
  · rw [e, show (f + 1) / 4 = f / 4 by omega, show (f + 1) % 4 = 1 by omega]
    simpa using h.getTileNumber hs hst
  · rw [e, show (f + 1) / 4 = f / 4 by omega, show (f + 1) % 4 = 2 by omega]
    simpa using h.tileDataLow hs hst
  · rw [e, show (f + 1) / 4 = f / 4 by omega, show (f + 1) % 4 = 3 by omega]
    simpa using h.tileDataHigh hs hst
  · rw [if_pos e, show (f + 1) / 4 = f / 4 + 1 by omega, show (f + 1) % 4 = 0 by omega]
    exact h.push hs hst hroom

/-! ### The picture (rules R221, R223) -/

/-- A pixel after one was written. -/
theorem get_putPixel {fb : Sparse Color} (h : Sparse.wf blankColor (Config.screenW * Config.screenH) fb = true)
    {ly col y x : Nat} (hly : ly < 144) (hcol : col < 160) (hx : x < 160) (c : Color) :
    Sparse.get blankColor (putPixel fb ly col c) (y * Config.screenW + x) =
      if y = ly ∧ x = col then c else Sparse.get blankColor fb (y * Config.screenW + x) := by
  have hiff : y * Config.screenW + x = ly * Config.screenW + col ↔ y = ly ∧ x = col := by
    simp only [Config.screenW]
    omega
  rw [putPixel, if_pos ⟨hly, hcol⟩, Sparse.get_set h]
  simp only [hiff]

theorem State.pixelStep_cons {s : State} {c : Color} {rest : List Color} (h : s.ppu.fifo = c :: rest) :
    s.pixelStep =
      if s.ppu.discard ≠ 0#3 then { s with ppu := { s.ppu with fifo := rest, discard := s.ppu.discard - 1 } }
      else
        { s with
          ppu := { s.ppu with
            fifo := rest
            frameBuffer := putPixel s.ppu.frameBuffer s.ly.toNat s.ppu.scanlineX c
            scanlineX := s.ppu.scanlineX + 1 } } := by
  rw [State.pixelStep, h]

theorem State.pixelStep_fifo (s : State) : s.pixelStep.ppu.fifo = s.ppu.fifo.tail := by
  cases h : s.ppu.fifo with
  | nil => rw [State.pixelStep_empty h, h]; rfl
  | cons c rest =>
    rw [State.pixelStep_cons h]
    split <;> rfl

/-- The pixel at the head of the FIFO is drawn at the line's column, unless there is something to discard. -/
theorem State.pixelStep_pixel {s : State} {c : Color} {rest : List Color} (h : s.ppu.fifo = c :: rest)
    (hwf : Sparse.wf blankColor (Config.screenW * Config.screenH) s.ppu.frameBuffer = true) (hly : s.ly.toNat < 144)
    (hcol : s.ppu.scanlineX < 160) {y x : Nat} (hx : x < 160) :
    s.pixelStep.pixel y x =
      if s.ppu.discard.toNat = 0 ∧ y = s.ly.toNat ∧ x = s.ppu.scanlineX then c else s.pixel y x := by
  rw [State.pixelStep_cons h]
  by_cases hd : s.ppu.discard = 0#3
  · have hd' : s.ppu.discard.toNat = 0 := congrArg BitVec.toNat hd
    rw [if_neg (not_not_intro hd)]
    simp only [hd', true_and]
    exact get_putPixel hwf hly hcol hx c
  · have hd' : s.ppu.discard.toNat ≠ 0 := fun e => hd (BitVec.eq_of_toNat_eq e)
    rw [if_pos hd, if_neg (fun hc => hd' hc.1)]
    rfl

theorem Fetched.pixelStep {s t : State} {i r : Nat} (h : Fetched s t.ppu i r) : Fetched s t.pixelStep.ppu i r := by
  unfold State.pixelStep
  split
  · exact h
  · split
    · exact ⟨h.column, h.tile, h.low, h.high⟩
    · exact ⟨h.column, h.tile, h.low, h.high⟩

/-! ### The Drawing cycles of a line (rules R213, R221, R224) -/

/-- `t` is `k` Drawing ticks into the line that began as `s`: `k / 2` fetcher steps are done, `k - 7` pixels are popped,
the first of them discarded, the others drawn, and the rest of the fetched pixels are in the FIFO. -/
structure LineAt (s t : State) (k : Nat) : Prop where
  scene : SameScene s t
  cycle : t.ppu.lineCycles = 80 + k
  div : t.ppu.fetchDiv = decide (k % 2 = 1)
  stage : t.ppu.fetcherState = stageAfter (k / 2)
  fetched : Fetched s t.ppu (k / 2 / 4) (k / 2 % 4)
  fifo : t.ppu.fifo = (List.range' (k - 7) (fifoAfter k)).map s.linePixel
  discard : t.ppu.discard.toNat = s.ppu.discard.toNat - (k - 7)
  column : t.ppu.scanlineX = k - 7 - s.ppu.discard.toNat
  pixels : ∀ y x, x < 160 → t.pixel y x =
    if y = s.ly.toNat ∧ x < t.ppu.scanlineX then s.linePixel (x + s.ppu.discard.toNat) else s.pixel y x

/-- How many Drawing ticks the line that begins as `s` takes: the 160th pixel comes with the last. -/
def State.drawTicks (s : State) : Nat := 167 + s.ppu.discard.toNat

theorem State.drawTicks_le (s : State) : s.drawTicks ≤ 174 := by
  have hd := s.ppu.discard.isLt
  unfold State.drawTicks
  omega

section
variable {s t : State} {k : Nat}

theorem LineAt.fifo_length (h : LineAt s t k) : t.ppu.fifo.length = fifoAfter k := by
  rw [h.fifo, List.length_map, List.length_range']

theorem LineAt.drawing (h : LineAt s t k) (hk : k < s.drawTicks) :
    t.countCycle.ppu.Drawing k s.ppu.discard.toNat := by
  refine ⟨h.div, h.stage, h.fifo_length, h.discard, h.column, ?_⟩
  show t.ppu.scanlineX < 160
  rw [h.column]
  unfold State.drawTicks at hk
  omega

/-- How many pixels the FIFO holds after the fetcher's part of Drawing tick `k + 1`, before one is popped. -/
def fifoFetched (k : Nat) : Nat := if k % 8 = 7 then 8 else fifoAfter k

theorem fifoFetched_eq_zero_iff {k : Nat} : fifoFetched k = 0 ↔ k < 7 := by
  unfold fifoFetched fifoAfter
  split
  · omega
  · split <;> omega

theorem fifoFetched_sub_one (k : Nat) : fifoFetched k - 1 = fifoAfter (k + 1) := by
  unfold fifoFetched fifoAfter
  split_ifs <;> omega

/-- After the fetcher's part of a Drawing tick. -/
theorem LineAt.fetch (h : LineAt s t k) :
    Fetched s t.countCycle.flipDiv.fetchIfDue.ppu ((k + 1) / 2 / 4) ((k + 1) / 2 % 4) ∧
      t.countCycle.flipDiv.fetchIfDue.ppu.fifo =
        (List.range' (k - 7) (fifoFetched k)).map s.linePixel := by
  have hscene : SameScene s t.countCycle.flipDiv := h.scene.of_bus rfl rfl rfl
  have hfetched : Fetched s t.countCycle.flipDiv.ppu (k / 2 / 4) (k / 2 % 4) :=
    ⟨h.fetched.column, h.fetched.tile, h.fetched.low, h.fetched.high⟩
  have hfifo : t.countCycle.flipDiv.ppu.fifo = _ := h.fifo
  have hdiv : t.countCycle.flipDiv.ppu.fetchDiv = !decide (k % 2 = 1) := congrArg (!·) h.div
  unfold State.fetchIfDue fifoFetched
  by_cases hk : k % 2 = 1
  · have hroom : t.ppu.fifo.length ≤ 8 := by
      rw [h.fifo_length]
      unfold fifoAfter
      split <;> omega
    obtain ⟨h1, h2⟩ := hfetched.step hscene h.stage hroom
    rw [hdiv, if_neg (by simp [hk]), show (k + 1) / 2 = k / 2 + 1 by omega]
    refine ⟨h1, h2.trans ?_⟩
    rw [hfifo]
    by_cases h7 : k % 8 = 7
    · have hempty : fifoAfter k = 0 := by
        unfold fifoAfter
        split <;> omega
      rw [hempty, if_pos (by omega), if_pos h7, show 8 * (k / 2 / 4) = k - 7 by omega]
      rfl
    · rw [if_neg (by omega), if_neg h7, List.append_nil]
  · rw [hdiv, if_pos (by simp [hk]), show (k + 1) / 2 = k / 2 by omega, if_neg (by omega)]
    exact ⟨hfetched, hfifo⟩

/-- The picture after Drawing tick `k + 1`: from the 8th tick on the fetched pixel `k - 7` is popped, and drawn once the
discarded ones are gone. -/
theorem LineAt.pixelStep_pixel (h : LineAt s t k) (hk : k < s.drawTicks) (hly : s.ly.toNat < 144)
    (hwf : Sparse.wf blankColor (Config.screenW * Config.screenH) t.ppu.frameBuffer = true) (y : Nat) {x : Nat}
    (hx : x < 160) :
    t.countCycle.flipDiv.fetchIfDue.pixelStep.pixel y x =
      if y = s.ly.toNat ∧ x < k + 1 - 7 - s.ppu.discard.toNat then s.linePixel (x + s.ppu.discard.toNat)
      else s.pixel y x := by
  obtain ⟨hb, hc, -, -, hcol, hdis, hfb, -, -⟩ := t.countCycle.flipDiv.fetchIfDue_rest
  obtain ⟨-, hfifo⟩ := h.fetch
  generalize t.countCycle.flipDiv.fetchIfDue = v at *
  have hvly : v.ly = s.ly := (State.readU8_of_bus hb hc _).trans h.scene.ly
  have hvcol : v.ppu.scanlineX = k - 7 - s.ppu.discard.toNat := hcol.trans h.column
  have hvdis : v.ppu.discard.toNat = s.ppu.discard.toNat - (k - 7) := (congrArg BitVec.toNat hdis).trans h.discard
  have hvpixel : v.pixel y x = if y = s.ly.toNat ∧ x < k - 7 - s.ppu.discard.toNat then
      s.linePixel (x + s.ppu.discard.toNat) else s.pixel y x := by
    rw [State.pixel, hfb, ← h.column]
    exact h.pixels y x hx
  unfold State.drawTicks at hk
  cases hn : fifoFetched k with
  | zero =>
    have h7 : k < 7 := fifoFetched_eq_zero_iff.mp hn
    rw [hn] at hfifo
    rw [State.pixelStep_empty hfifo, hvpixel, show k - 7 = k + 1 - 7 by omega]
  | succ n =>
    have h7 : 7 ≤ k := Nat.not_lt.mp fun hlt => by
      rw [fifoFetched_eq_zero_iff.mpr hlt] at hn
      exact nomatch hn
    rw [hn, List.range'_succ, List.map_cons] at hfifo
    rw [State.pixelStep_pixel hfifo (hfb ▸ hwf) (hvly ▸ hly) (by omega) hx, hvpixel, hvdis, hvly, hvcol]
    by_cases hdrawn : s.ppu.discard.toNat - (k - 7) = 0 ∧ y = s.ly.toNat ∧ x = k - 7 - s.ppu.discard.toNat
    · rw [if_pos hdrawn, if_pos (by omega), show k - 7 = x + s.ppu.discard.toNat by omega]
    · have hiff : (y = s.ly.toNat ∧ x < k - 7 - s.ppu.discard.toNat) ↔
          (y = s.ly.toNat ∧ x < k + 1 - 7 - s.ppu.discard.toNat) := by omega
      rw [if_neg hdrawn]
      simp only [hiff]

/-- A Drawing tick before the x = 160 check. -/
theorem LineAt.tick (h : LineAt s t k) (hk : k < s.drawTicks) (hly : s.ly.toNat < 144)
    (hwf : Sparse.wf blankColor (Config.screenW * Config.screenH) t.ppu.frameBuffer = true) :
    LineAt s t.countCycle.flipDiv.fetchIfDue.pixelStep (k + 1) := by
  obtain ⟨hdiv, hstage, -, hdiscard, hcolumn⟩ := State.drawTick_position (h.drawing hk)
  obtain ⟨hfetched, hfifo⟩ := h.fetch
  have hpixel := h.pixelStep_pixel hk hly hwf
  obtain ⟨hb, hc, -, hl, -, -, -, hp, -⟩ := t.countCycle.flipDiv.fetchIfDue_rest
  obtain ⟨hb', hc', -, hl', -, -, hp'⟩ := t.countCycle.flipDiv.fetchIfDue.pixelStep_rest
  refine ⟨h.scene.of_bus (hb'.trans hb) (hc'.trans hc) (hp'.trans hp), (hl'.trans hl).trans ?_, hdiv, hstage, ?_, ?_,
    hdiscard, hcolumn, fun y x hx => ?_⟩
  · exact congrArg (· + 1) h.cycle
  · exact hfetched.pixelStep
  · rw [State.pixelStep_fifo, hfifo, ← List.map_tail, List.tail_range', fifoFetched_sub_one]
    by_cases h7 : k < 7
    · rw [← fifoFetched_sub_one, fifoFetched_eq_zero_iff.mpr h7]
      rfl
    · rw [show k - 7 + 1 = k + 1 - 7 by omega]
  · rw [hpixel y hx, hcolumn]

theorem LineAt.setMode {banks : Nat} (h : LineAt s t k) (hb : t.bus.Sound banks) (m : Mode) :
    LineAt s (t.setMode m) k :=
  ⟨h.scene.setMode hb m, h.cycle, h.div, h.stage,
    ⟨h.fetched.column, h.fetched.tile, h.fetched.low, h.fetched.high⟩, h.fifo, h.discard, h.column, h.pixels⟩

/-- A Drawing tick: the one that draws the 160th pixel ends Drawing. -/
theorem LineAt.drawTick (h : LineAt s t k) (hk : k < s.drawTicks) (hly : s.ly.toNat < 144) (hs : t.PpuSound)
    (hm : t.ppu.mode = .drawingPixels) :
    LineAt s t.countCycle.drawTick (k + 1) ∧
      t.countCycle.drawTick.ppu.mode = if k + 1 < s.drawTicks then .drawingPixels else .hBlank := by
  have hnext := h.tick hk hly hs.frameBuffer
  obtain ⟨hb, -, hmode, -, -, -, -, -, -⟩ := t.countCycle.flipDiv.fetchIfDue_rest
  obtain ⟨hb', -, hmode', -, -, -, -⟩ := t.countCycle.flipDiv.fetchIfDue.pixelStep_rest
  unfold State.drawTick State.endDrawing
  generalize t.countCycle.flipDiv.fetchIfDue.pixelStep = u at *
  have hcol : u.ppu.scanlineX = Config.screenW ↔ ¬k + 1 < s.drawTicks := by
    rw [hnext.column, Config.screenW]
    unfold State.drawTicks at hk ⊢
    omega
  by_cases hlast : k + 1 < s.drawTicks
  · rw [if_neg (fun e => hcol.mp e hlast), if_pos hlast]
    exact ⟨hnext, (hmode'.trans hmode).trans hm⟩
  · have hbus : u.bus.Sound t.config.romBankCount := by
      rw [hb', hb]
      exact hs.bus
    rw [if_pos (hcol.mpr hlast), if_neg hlast]
    exact ⟨hnext.setMode hbus .hBlank, rfl⟩

end

/-- The start of a visible line with the display on. -/
structure State.LineBegins (s : State) : Prop where
  sound : s.PpuSound
  on : s.lcdOn = true
  mode : s.ppu.mode = .oamScan
  cycle : s.ppu.lineCycles = 0

namespace State.LineBegins

variable {s : State}

theorem visible (h : s.LineBegins) : s.ly.toNat < 144 := by
  have hly := h.sound.ly
  rw [h.mode] at hly
  rw [s.ly_eq]
  exact hly

theorem lineAt_zero (h : s.LineBegins) : LineAt s ((s.atCycle 80).setMode .drawingPixels) 0 := by
  have hline := h.sound.line
  unfold Ppu.inLine at hline
  rw [h.mode] at hline
  obtain ⟨-, hfifo, hcolumn, hstage, hdiv⟩ := hline
  have hstart : LineAt s (s.atCycle 80) 0 :=
    { scene := ⟨rfl, rfl, rfl, rfl, fun _ _ _ => rfl⟩
      cycle := rfl
      div := hdiv
      stage := hstage
      fetched := ⟨(BitVec.add_zero _).symm, (by omega), (by omega), (by omega)⟩
      fifo := hfifo
      discard := rfl
      column := hcolumn.trans (Nat.zero_sub _).symm
      pixels := fun y x _ => (if_neg fun hc => Nat.not_lt_zero x (hcolumn ▸ hc.2)).symm }
  exact hstart.setMode h.sound.bus .drawingPixels

/-- Every Drawing tick of a line, up to the one that draws the 160th pixel and ends Drawing. -/
theorem drawing (h : s.LineBegins) (k : Nat) (hk : k ≤ s.drawTicks) :
    LineAt s (s.updateGraphics (80 + k)) k ∧
      (s.updateGraphics (80 + k)).ppu.mode = if k < s.drawTicks then .drawingPixels else .hBlank := by
  induction k with
  | zero =>
    rw [State.updateGraphics_oamScan h.on h.mode h.cycle, if_pos (by unfold State.drawTicks; omega)]
    exact ⟨h.lineAt_zero, rfl⟩
  | succ k ih =>
    obtain ⟨hat, hmode⟩ := ih (by omega)
    rw [if_pos (by omega)] at hmode
    have hsound : (s.updateGraphics (80 + k)).PpuSound := State.updateGraphics_sound _ h.sound
    have hon : (s.updateGraphics (80 + k)).lcdOn = true := (State.updateGraphics_lcdOn h.sound _).trans h.on
    rw [← Nat.add_assoc, State.updateGraphics_succ, State.ppuTick_on hon,
      State.modeTick_drawingPixels (s := State.countCycle _) hmode]
    exact hat.drawTick hk h.visible hsound hmode

/-- HBlank begins with the line's picture drawn. -/
theorem drawn (h : s.LineBegins) :
    LineAt s (s.updateGraphics (80 + s.drawTicks)) s.drawTicks ∧
      (s.updateGraphics (80 + s.drawTicks)).ppu.mode = .hBlank := by
  obtain ⟨hat, hmode⟩ := h.drawing s.drawTicks le_rfl
  exact ⟨hat, hmode.trans (if_neg (lt_irrefl _))⟩

/-- The cycles of HBlank only count. -/
theorem hBlank (h : s.LineBegins) (n : Nat) (hn : 80 + s.drawTicks + n < 456) :
    s.updateGraphics (80 + s.drawTicks + n) = (s.updateGraphics (80 + s.drawTicks)).atCycle (80 + s.drawTicks + n) := by
  obtain ⟨hat, hmode⟩ := h.drawn
  rw [State.updateGraphics_add,
    State.updateGraphics_waits ((State.updateGraphics_lcdOn h.sound _).trans h.on) n
      (by rw [hat.cycle, hmode]; exact hn), hat.cycle]

/-- The 456th cycle ends the line. -/
theorem lineEnd (h : s.LineBegins) :
    s.updateGraphics 456 = ((s.updateGraphics (80 + s.drawTicks)).atCycle 456).endOfLine := by
  obtain ⟨hat, hmode⟩ := h.drawn
  have hle := s.drawTicks_le
  obtain ⟨n, hn⟩ : ∃ n, 80 + s.drawTicks + n + 1 = 456 := ⟨455 - (80 + s.drawTicks), by omega⟩
  rw [← hn, Nat.add_assoc, State.updateGraphics_add,
    State.updateGraphics_end ((State.updateGraphics_lcdOn h.sound _).trans h.on) n
      (by rw [hat.cycle, hmode]; exact hn), hmode, State.modeTick_hBlank (by simpa using hmode), ← Nat.add_assoc, hn]
  rfl

end State.LineBegins

/-! ### The ends of lines (rules R214, R215) -/

theorem State.enterLine_ly {s : State} {banks : Nat} (hb : s.bus.Sound banks) : s.enterLine.ly = s.ly := by
  rw [State.ly_eq, State.ly_eq]
  unfold State.enterLine
  split
  · exact State.setMode_io hb .vBlank (by decide)
  · exact State.setMode_io hb .oamScan (by decide)

theorem State.nextLy_ly {s : State} {banks : Nat} (hb : s.bus.Sound banks) : s.nextLy.ly = s.ly + 1 := by
  rw [State.ly_eq, State.nextLy_io hb, State.ly_eq]

theorem State.enterLine_mode (s : State) : s.enterLine.ppu.mode = if s.ly = 144#8 then .vBlank else .oamScan := by
  unfold State.enterLine
  split <;> rfl

theorem State.endOfLine_leaves {s : State} {banks : Nat} (hb : s.bus.Sound banks) :
    s.endOfLine.ppu.lineCycles = 0 ∧ s.endOfLine.ly = s.ly + 1 ∧
      s.endOfLine.ppu.mode = (if s.ly + 1 = 144#8 then .vBlank else .oamScan) ∧
      s.endOfLine.ppu.frameBuffer = s.ppu.frameBuffer := by
  have hly : s.resetLine.nextLy.ly = s.ly + 1 := State.nextLy_ly (s := s.resetLine) hb
  have hmode := s.resetLine.nextLy.enterLine_mode
  rw [hly] at hmode
  have hend : s.endOfLine.ly = s.ly + 1 := (State.enterLine_ly (State.nextLy_sound (s := s.resetLine) hb)).trans hly
  refine ⟨?_, hend, hmode, ?_⟩ <;> unfold State.endOfLine State.enterLine <;> split <;> rfl

/-- What the 456 cycles of a visible line leave: the picture drawn, LY counted up, and the next line or VBlank begun. -/
theorem State.LineBegins.next {s : State} (h : s.LineBegins) :
    (s.updateGraphics 456).ppu.lineCycles = 0 ∧ (s.updateGraphics 456).ly = s.ly + 1 ∧
      (s.updateGraphics 456).ppu.mode = (if s.ly = 143 then .vBlank else .oamScan) ∧
      (s.updateGraphics 456).ppu.frameBuffer = (s.updateGraphics (80 + s.drawTicks)).ppu.frameBuffer := by
  have hly : ((s.updateGraphics (80 + s.drawTicks)).atCycle 456).ly = s.ly := h.drawn.1.scene.ly
  have hlast : s.ly + 1 = 144#8 ↔ s.ly = 143 := by bv_omega
  have hend := State.endOfLine_leaves (s := (s.updateGraphics (80 + s.drawTicks)).atCycle 456)
    (State.updateGraphics_sound _ h.sound).bus
  rw [← h.lineEnd, hly] at hend
  simp only [hlast] at hend
  exact hend

/-- Settles O51: OAMScan counts, the Drawing ticks are those of `LineAt`, HBlank counts, and the last cycle ends the
line. -/
theorem visibleLineTiming : Obligations.VisibleLineTiming := by
  intro s hinv hon hmode hcycle d
  have h : s.LineBegins := ⟨hinv.ppuSound, hon, hmode, hcycle⟩
  have hticks : s.drawTicks = 167 + d := rfl
  obtain ⟨hdrawn, hblank⟩ := h.drawn
  have hcol := hdrawn.column
  have hdis := hdrawn.discard
  refine ⟨fun n hn => ?_, ?_⟩
  · by_cases hscan : n < 80
    · have hwaits : s.updateGraphics n = s.atCycle n := by
        rw [State.updateGraphics_waits hon n (by rw [hcycle, hmode, Nat.zero_add]; exact hscan), hcycle, Nat.zero_add]
      have hcol0 : s.ppu.scanlineX = 0 := h.lineAt_zero.column.trans (Nat.zero_sub _)
      rw [hwaits, if_pos hscan]
      refine ⟨rfl, rfl, hcol0.trans ?_, ?_, hmode⟩
      · omega
      · show d = _
        omega
    · rw [if_neg hscan]
      by_cases hdraw : n < 247 + d
      · obtain ⟨k, rfl⟩ : ∃ k, n = 80 + k := ⟨n - 80, by omega⟩
        obtain ⟨hat, hm⟩ := h.drawing k (by omega)
        rw [if_pos (by omega)] at hm
        rw [if_pos hdraw]
        exact ⟨hat.cycle, hat.scene.ly, hat.column.trans (by omega), hat.discard.trans (by omega), hm⟩
      · obtain ⟨m, rfl⟩ : ∃ m, n = 80 + s.drawTicks + m := ⟨n - (80 + s.drawTicks), by omega⟩
        rw [h.hBlank m hn, if_neg hdraw]
        exact ⟨rfl, hdrawn.scene.ly, hcol.trans (by omega), hdis.trans (by omega), hblank⟩
  · obtain ⟨hcycle', hly, hm, -⟩ := h.next
    exact ⟨hcycle', hly, hm⟩

/-- Settles O53: the picture at the end of Drawing is the line's, and neither HBlank nor the line's end touches it. -/
theorem renderedLineIsBackground : Obligations.RenderedLineIsBackground := by
  intro s hinv hon hmode hcycle t
  have h : s.LineBegins := ⟨hinv.ppuSound, hon, hmode, hcycle⟩
  obtain ⟨hdrawn, -⟩ := h.drawn
  obtain ⟨-, -, -, hpicture⟩ := h.next
  have hcol : (s.updateGraphics (80 + s.drawTicks)).ppu.scanlineX = 160 := by
    rw [hdrawn.column]
    unfold State.drawTicks
    omega
  have hpixel (y x : Nat) (hx : x < 160) :
      t.pixel y x = if y = s.ly.toNat then s.linePixel (x + s.ppu.discard.toNat) else s.pixel y x := by
    have hpixels := hdrawn.pixels y x hx
    simp only [hcol, hx, and_true] at hpixels
    rw [State.pixel, hpicture]
    exact hpixels
  refine ⟨fun x hx => ?_, fun y x hy hx => ?_⟩
  · rw [hpixel _ _ hx, if_pos rfl]
    rfl
  · rw [hpixel _ _ hx, if_neg hy]

/-! ### The lines of a frame (rules R215, R225) -/

/-- The start of a line of a frame with the display on: OAMScan on a visible line, VBlank on the others. -/
structure State.FrameLineBegins (s : State) : Prop where
  sound : s.PpuSound
  on : s.lcdOn = true
  cycle : s.ppu.lineCycles = 0
  mode : s.ppu.mode = if s.ly.toNat < 144 then .oamScan else .vBlank

theorem State.vBlankLineEnd_leaves {s : State} {banks : Nat} (hb : s.bus.Sound banks) :
    s.vBlankLineEnd.ppu.lineCycles = 0 ∧ s.vBlankLineEnd.ly = (if s.ly + 1 = 154#8 then 0#8 else s.ly + 1) ∧
      s.vBlankLineEnd.ppu.mode = if s.ly + 1 = 154#8 then .oamScan else s.ppu.mode := by
  have hnext : s.zeroLineCycles.nextLy.bus.Sound banks := State.nextLy_sound (s := s.zeroLineCycles) hb
  have hly : s.zeroLineCycles.nextLy.ly = s.ly + 1 := State.nextLy_ly (s := s.zeroLineCycles) hb
  unfold State.vBlankLineEnd State.wrapLy
  rw [hly]
  split
  · refine ⟨rfl, ?_, rfl⟩
    rw [State.ly_eq]
    exact (State.setMode_io (State.putLy_sound hnext 0#8) .oamScan (by decide)).trans
      ((State.io_putIo hnext 0x44 0x44 0#8).trans (if_pos rfl))
  · exact ⟨rfl, hly, rfl⟩

/-- What the 456 cycles of a line of VBlank leave. -/
theorem State.updateGraphics_vBlank {s : State} (hs : s.PpuSound) (hon : s.lcdOn = true) (hm : s.ppu.mode = .vBlank)
    (h0 : s.ppu.lineCycles = 0) :
    (s.updateGraphics 456).ppu.lineCycles = 0 ∧
      (s.updateGraphics 456).ly = (if s.ly + 1 = 154#8 then 0#8 else s.ly + 1) ∧
      (s.updateGraphics 456).ppu.mode = if s.ly + 1 = 154#8 then .oamScan else .vBlank := by
  have hend : s.updateGraphics 456 = (s.atCycle 456).vBlankLineEnd := by
    rw [State.updateGraphics_end hon 455 (by rw [h0, hm]; rfl), hm, State.modeTick_vBlank (by simpa using hm)]
    rfl
  rw [hend, ← hm]
  exact State.vBlankLineEnd_leaves (s := s.atCycle 456) hs.bus

/-- After 456 cycles the next line begins, and line 0 follows line 153. -/
theorem State.FrameLineBegins.next {s : State} (h : s.FrameLineBegins) :
    (s.updateGraphics 456).FrameLineBegins ∧ (s.updateGraphics 456).ly.toNat = (s.ly.toNat + 1) % 154 := by
  have hsound := State.updateGraphics_sound 456 h.sound
  have hon := (State.updateGraphics_lcdOn h.sound 456).trans h.on
  have hmode := h.mode
  by_cases hvisible : s.ly.toNat < 144
  · rw [if_pos hvisible] at hmode
    obtain ⟨hcycle, hly, hm, -⟩ := State.LineBegins.next ⟨h.sound, h.on, hmode, h.cycle⟩
    have hnext : (s.updateGraphics 456).ly.toNat = s.ly.toNat + 1 := by
      rw [hly]
      bv_omega
    have hlast : s.ly = 143 ↔ ¬s.ly.toNat + 1 < 144 := by bv_omega
    refine ⟨⟨hsound, hon, hcycle, ?_⟩, by omega⟩
    rw [hm, hnext]
    simp only [hlast, ite_not]
  · rw [if_neg hvisible] at hmode
    obtain ⟨hcycle, hly, hm⟩ := State.updateGraphics_vBlank h.sound h.on hmode h.cycle
    have hline := h.sound.ly
    rw [hmode, ← s.ly_eq] at hline
    have hmax : s.ly.toNat < 154 := hline.2
    by_cases hlast : s.ly + 1 = 154#8
    · have h153 : s.ly.toNat = 153 := by bv_omega
      rw [if_pos hlast] at hly hm
      exact ⟨⟨hsound, hon, hcycle, by rw [hm, hly]; rfl⟩, by rw [hly, h153]; rfl⟩
    · rw [if_neg hlast] at hly hm
      have hnext : (s.updateGraphics 456).ly.toNat = s.ly.toNat + 1 := by
        rw [hly]
        bv_omega
      have h153 : s.ly.toNat ≠ 153 := by bv_omega
      exact ⟨⟨hsound, hon, hcycle, by rw [hm, if_neg (by omega)]⟩, by omega⟩

theorem State.FrameLineBegins.lines {s : State} (h : s.FrameLineBegins) (hly : s.ly = 0) (n : Nat) :
    (s.updateGraphics (456 * n)).FrameLineBegins ∧ (s.updateGraphics (456 * n)).ly.toNat = n % 154 := by
  induction n with
  | zero => exact ⟨h, congrArg BitVec.toNat hly⟩
  | succ n ih =>
    obtain ⟨hbegins, hn⟩ := ih
    obtain ⟨hnext, hly'⟩ := hbegins.next
    rw [Nat.mul_succ, State.updateGraphics_add]
    exact ⟨hnext, by rw [hly', hn]; omega⟩

/-- Settles O52: the frame's lines follow one another, whatever their number. -/
theorem frameTiming : Obligations.FrameTiming := by
  intro s hinv hon hmode hcycle hly n _
  have hstart : s.FrameLineBegins := ⟨hinv.ppuSound, hon, hcycle, by rw [hly]; exact hmode⟩
  obtain ⟨hbegins, hn⟩ := hstart.lines hly n
  exact ⟨hn, hbegins.cycle, hn ▸ hbegins.mode⟩

end Sys2Proof.Machine

/-! PROOFS. The statements about the system step and what the host does between steps (56_system_step.md): the time
after a CPU step, the frame driver and `load_state`. -/

namespace Sys2Proof.Machine

/-! ### Time passes (rules R230, R253) -/

/-- What the time after a CPU step leaves alone: everything but the I/O bytes, the DIV counter, the PPU's fields and the
frame counter. -/
theorem State.elapse_rest (s : State) (c : Nat) :
    { s.elapse c with
      bus := { (s.elapse c).bus with io := s.bus.io, divCounter := s.bus.divCounter }
      ppu := s.ppu
      frameCycles := s.frameCycles } = s := by
  have h := ((s.advanceDiv c).updateGraphics_writes c).rest
  exact congrArg (fun t : State =>
    { t with bus := { t.bus with divCounter := s.bus.divCounter }, frameCycles := s.frameCycles }) h

theorem State.elapse_fault (s : State) (c : Nat) : (s.elapse c).fault = s.fault :=
  (congrArg State.fault (s.elapse_rest c) :)

theorem State.elapse_divCounter (s : State) (c : Nat) :
    (s.elapse c).bus.divCounter = s.bus.divCounter + BitVec.ofNat 16 c :=
  (congrArg (fun t : State => t.bus.divCounter) ((s.advanceDiv c).updateGraphics_writes c).rest :)

theorem State.elapse_frameCycles (s : State) (c : Nat) : (s.elapse c).frameCycles = s.frameCycles + c :=
  (congrArg (fun t : State => t.frameCycles + c) ((s.advanceDiv c).updateGraphics_writes c).rest :)

/-- DIV after `c` more cycles: the high byte of the counter. -/
theorem hiByte_add_ofNat (w : Word) (c : Nat) : hiByte (w + BitVec.ofNat 16 c) = byteOf ((w.toNat + c) / 256) := by
  apply BitVec.eq_of_toNat_eq
  rw [hiByte_toNat, byteOf, BitVec.toNat_ofNat, BitVec.toNat_add, BitVec.toNat_ofNat]
  omega

/-- The fetched instruction's completion is the step's, and its T-cycles elapse (rule R230). -/
theorem systemStep_of_next {s t : State} (hf : s.fault = none) (hh : s.halted = false)
    (ht : exec s.fetched s = .next t) (hft : t.fault = none) : systemStep s = .ok t.cycles (t.elapse t.cycles) := by
  unfold systemStep cpuStep
  rw [hf, hh, if_neg Bool.false_ne_true, ht]
  exact State.finishStep_none hft

/-- Settles O48: the step of an instruction that completes lets its T-cycles elapse. -/
theorem timerFollowsTheCpu : Obligations.TimerFollowsTheCpu := by
  intro s t hf hh ht hft
  have hstep : step s = .next (t.elapse t.cycles) := step_eq_next.mpr ⟨_, systemStep_of_next hf hh ht hft⟩
  have hrest := t.elapse_rest t.cycles
  refine ⟨_, hstep, t.elapse_divCounter _, ?_, t.elapse_frameCycles _, (congrArg State.regs hrest :),
    (congrArg State.sp hrest :), (congrArg State.pc hrest :), (congrArg State.ime hrest :),
    (congrArg State.halted hrest :), (t.elapse_fault _).trans hft, (congrArg State.bus hrest :)⟩
  rw [State.readU8_of_slot (State.slot_div rfl)]
  exact (congrArg hiByte (t.elapse_divCounter _)).trans (hiByte_add_ofNat _ _)

/-! ### The frame driver (rules R231, R232) -/

/-- How a frame may end, with its overshoot (rules R231, R232). -/
def FrameEnds (o : FrameOut) : Prop :=
  (∃ picture t, o = .frame picture t ∧ picture = t.ppu.frameBuffer ∧ t.frameCycles ≤ 20 ∧ t.frameCycles % 4 = 0 ∧
    t.fault = none) ∨
  ∃ e t, o = .fault e t ∧ t.fault = some e

/-- A system step that completes takes 4 to 24 T-cycles, a multiple of 4, and counts them for the frame; one that does
not returns the fault that its state records. -/
theorem systemStep_frameCycles {s : State} (hf : s.fault = none) :
    (∃ c t, systemStep s = .ok c t ∧ t.fault = none ∧ t.frameCycles = s.frameCycles + c ∧
      4 ≤ c ∧ c ≤ 24 ∧ c % 4 = 0) ∨
      ∃ e t, systemStep s = .fault e t ∧ t.fault = some e := by
  rcases systemStep_cases s with ⟨e, he, _⟩ | ⟨_, _, hs⟩ | ⟨_, _, t, _, ht, hs⟩ | ⟨_, _, e, _, hs⟩
  · exact nomatch hf.symm.trans he
  · exact .inl ⟨4, _, hs, (State.elapse_fault _ _).trans hf, State.elapse_frameCycles _ _, by decide⟩
  · refine .inl ⟨_, _, hs, (State.elapse_fault _ _).trans (ht.fault.trans hf), ?_, ht.cycles⟩
    rw [State.elapse_frameCycles, ht.frameCycles]
  · exact .inr ⟨e, _, hs, rfl⟩

/-- A loop that has a step for every 4 T-cycles left of the budget ends. -/
theorem runFrameFor_ends (fuel : Nat) {s : State} (hf : s.fault = none) (h4 : s.frameCycles % 4 = 0)
    (hmax : s.frameCycles ≤ 70244) (hfuel : 70224 ≤ s.frameCycles + 4 * fuel) : FrameEnds (runFrameFor fuel s) := by
  induction fuel generalizing s with
  | zero =>
    rw [runFrameFor, if_neg (by simp only [Config.frameCycles]; omega)]
    refine .inl ⟨_, _, rfl, rfl, ?_, ?_, hf⟩ <;> simp only [Config.frameCycles] <;> omega
  | succ fuel ih =>
    rw [runFrameFor]
    by_cases hlt : s.frameCycles < Config.frameCycles
    · rw [if_pos hlt]
      simp only [Config.frameCycles] at hlt
      rcases systemStep_frameCycles hf with ⟨c, t, hs, htf, htc, hc⟩ | ⟨e, t, hs, ht⟩
      · simp only [hs]
        exact ih htf (by omega) (by omega) (by omega)
      · simp only [hs]
        exact .inr ⟨e, t, rfl, ht⟩
    · rw [if_neg hlt]
      simp only [Config.frameCycles] at hlt
      refine .inl ⟨_, _, rfl, rfl, ?_, ?_, hf⟩ <;> simp only [Config.frameCycles] <;> omega

/-- Settles O55: a recorded fault is reported; without one the driver has more steps than it can take. -/
theorem frameDriverEnds : Obligations.FrameDriverEnds := by
  intro s hlt h4
  cases hf : s.fault with
  | some e => exact .inr ⟨e, s, runFrame_faulted hf, hf⟩
  | none =>
    rw [runFrame_running hf]
    exact runFrameFor_ends _ hf h4 (by omega) (by simp only [Config.frameCycles]; omega)

/-! ### `load_state` (rule R234) -/

/-- A list of bytes put where their addresses read from writes the bus and nothing else. -/
theorem State.pokeAll_eq (ws : List (Word × Byte)) (s : State) :
    s.pokeAll ws = { s with bus := (s.pokeAll ws).bus } := by
  induction ws generalizing s with
  | nil => rfl
  | cons w ws ih => exact ih (s.poke w.1 w.2)

theorem State.pokeAll_append (ws : List (Word × Byte)) (a : Word) (v : Byte) (s : State) :
    s.pokeAll (ws ++ [(a, v)]) = (s.pokeAll ws).poke a v := by
  induction ws generalizing s with
  | nil => rfl
  | cons w ws ih => exact ih (s.poke w.1 w.2)

theorem Bus.loByte_pokeSlot_divCounter (b : Bus) (x : Slot) (v : Byte) :
    loByte (b.pokeSlot x v).divCounter = loByte b.divCounter := by
  cases x with
  | div => exact loByte_wordOf v _
  | _ => rfl

/-- What putting bytes in their places keeps of the bus and the configuration. -/
structure PokesKeep (s t : State) : Prop where
  config : t.config = s.config
  romBank : t.bus.romBank = s.bus.romBank
  mapped : t.bus.bootRomMapped = s.bus.bootRomMapped
  divLow : loByte t.bus.divCounter = loByte s.bus.divCounter
  sound : s.config.valid → s.bus.Sound s.config.romBankCount → t.bus.Sound t.config.romBankCount

theorem State.poke_keeps (s : State) (a : Word) (v : Byte) : PokesKeep s (s.poke a v) :=
  ⟨rfl, s.bus.pokeSlot_romBank _ _, s.bus.pokeSlot_bootRomMapped _ _, s.bus.loByte_pokeSlot_divCounter _ _,
    fun hc hs => hs.pokeSlot (s.slot_inRange hc a) v⟩

theorem State.pokeAll_keeps (ws : List (Word × Byte)) (s : State) : PokesKeep s (s.pokeAll ws) := by
  induction ws generalizing s with
  | nil => exact ⟨rfl, rfl, rfl, rfl, fun _ hs => hs⟩
  | cons w ws ih =>
    have h1 := s.poke_keeps w.1 w.2
    have h2 := ih (s.poke w.1 w.2)
    exact ⟨h2.config.trans h1.config, h2.romBank.trans h1.romBank, h2.mapped.trans h1.mapped,
      h2.divLow.trans h1.divLow, fun hc hs => h2.sound hc (h1.sound hc hs)⟩

/-- The state whose listed bytes are then put in their places: the golden registers, nothing halted or at fault. -/
def State.withGoldenRegs (s : State) (g : Golden) : State :=
  { s with
    regs := { a := g.a, b := g.b, c := g.c, d := g.d, e := g.e, f := maskF g.f, h := g.h, l := g.l }
    sp := g.sp
    pc := g.pc
    halted := false
    fault := none }

theorem State.loadState_eq (s : State) (g : Golden) : s.loadState g = (s.withGoldenRegs g).pokeAll g.mem := rfl

theorem State.loadState_keeps (s : State) (g : Golden) : PokesKeep s (s.loadState g) :=
  have h := (s.withGoldenRegs g).pokeAll_keeps g.mem
  ⟨h.config, h.romBank, h.mapped, h.divLow, h.sound⟩

/-- Settles O56: `pokeAll` writes the bus alone, and its last byte is one byte put in its place. -/
theorem loadStateSetsTheGoldenState : Obligations.LoadStateSetsTheGoldenState := by
  intro s g hc hs t
  have hkeep : PokesKeep s t := s.loadState_keeps g
  refine ⟨State.pokeAll_eq g.mem (s.withGoldenRegs g), hkeep.romBank, hkeep.mapped, hkeep.divLow, fun hmem => ?_,
    fun ws a v hmem => ?_⟩
  · show (s.loadState g).bus = s.bus
    rw [State.loadState_eq, hmem]
    rfl
  · intro u
    have hu : PokesKeep s u := s.loadState_keeps { g with mem := ws }
    have hsound := hu.sound hc hs
    have hslot (b : Word) : u.slot b = s.slot b := State.slot_congr hu.mapped hu.romBank hu.config b
    have ht : t = u.poke a v := by
      show s.loadState g = _
      rw [State.loadState_eq, hmem, State.pokeAll_append]
      rfl
    rw [ht, ← hslot]
    refine ⟨fun hgap => ?_, fun hgap => ?_, fun x hx => ?_⟩
    · rw [State.readU8_poke hsound, if_pos ⟨rfl, hgap⟩]
    · rw [State.poke_bus, hgap]
      rfl
    · rw [State.poke_bus, hsound.readSlot_pokeSlot, if_neg (fun h => hx h.1)]

end Sys2Proof.Machine

/-! PROOFS. The statement about the interrupt dispatch (60_exceptions.md). -/

namespace Sys2Proof.Machine

theorem sourceBit_eq (k : Fin 5) : (1 : Byte) <<< k.val = byteOf (2 ^ k.val) :=
  one_shiftLeft_eq_byteOf (k.castLE (by decide))

theorem interruptVector_eq (j : Fin 5) :
    0x0040#16 + 8#16 * BitVec.ofNat 16 j.val = BitVec.ofNat 16 (0x40 + 8 * j.val) := by
  revert j; decide

theorem lowestPending_eq_none (x : Byte) : lowestPending (x &&& 0x1F#8) = none ↔ x &&& 0x1F#8 = 0#8 := by
  revert x; decide +kernel

/-- The lowest-numbered pending source is the one with none below it (rule R249). -/
theorem lowestPending_eq_some {p : Byte} {j : Fin 5} (hj : p.getLsbD j.val = true)
    (hlow : ∀ i < j.val, p.getLsbD i = false) : lowestPending p = some j := by
  unfold lowestPending
  match j with
  | 0 => exact if_pos hj
  | 1 | 2 | 3 | 4 =>
    simp (disch := decide) only [hlow, Bool.false_eq_true, if_false]
    exact if_pos hj

/-- With the request of source `k` set. -/
def State.requested (s : State) (k : Fin 5) : State := s.putIo 0x0F (s.intFlags ||| byteOf (2 ^ k.val))

theorem State.requested_intFlags {s : State} {banks : Nat} (hs : s.bus.Sound banks) (k : Fin 5) :
    (s.requested k).intFlags = s.intFlags ||| byteOf (2 ^ k.val) :=
  (State.io_putIo hs 0x0F 0x0F _).trans (if_pos rfl)

theorem State.dispatchInterrupt_running {s : State} (hm : s.config.interruptsModelled = true) (hf : s.fault = none)
    (k : Fin 5) : s.dispatchInterrupt k = some (s.requested k).dispatchRequested := by
  rw [State.dispatchInterrupt, if_pos hm, hf, sourceBit_eq]
  rfl

theorem State.dispatchRequested_none {s : State} (h : lowestPending s.pending = none) : s.dispatchRequested = s := by
  rw [State.dispatchRequested, h]

theorem State.dispatchRequested_woken {s : State} {j : Fin 5} (h : lowestPending s.pending = some j)
    (hi : s.ime = false) : s.dispatchRequested = { s with halted := false } := by
  rw [State.dispatchRequested, h]
  simp [hi]

theorem State.dispatchRequested_taken {s : State} {j : Fin 5} (h : lowestPending s.pending = some j)
    (hi : s.ime = true) : s.dispatchRequested = (State.enterInterrupt { s with halted := false } j).elapse 20 := by
  rw [State.dispatchRequested, h]
  simp [hi]

/-- Taking interrupt `j`: its request and IME cleared, the two stores of a push, PC at the vector. -/
theorem State.enterInterrupt_eq (s : State) (j : Fin 5) :
    s.enterInterrupt j =
      let taken : State := { s.putIo 0x0F (s.intFlags &&& ~~~byteOf (2 ^ j.val)) with ime := false }
      { taken.storeAll [(s.sp - 1, hiByte s.pc), (s.sp - 2, loByte s.pc)] with
        sp := s.sp - 2, pc := BitVec.ofNat 16 (0x40 + 8 * j.val) } := by
  rw [State.enterInterrupt, sourceBit_eq, interruptVector_eq]
  simp only [State.push16_eq]
  rfl

/-- Settles O54, by what is pending once the request is set. -/
theorem interruptDispatch : Obligations.InterruptDispatch := by
  intro s k hs f p asked
  have hflags : asked.intFlags = f := s.requested_intFlags hs k
  have hpending : asked.pending = p := by
    show asked.bus.ie &&& asked.intFlags &&& 0x1F#8 = p
    rw [hflags]
    rfl
  refine ⟨fun hm => ?_, fun hm hf => ?_, fun hm hf hp => ?_, fun hm hf hp hi => ?_, fun hm hf hi j hj hlow => ?_⟩
  · rw [State.dispatchInterrupt, hm, if_neg Bool.false_ne_true]
  · obtain ⟨e, he⟩ := Option.ne_none_iff_exists'.mp hf
    rw [State.dispatchInterrupt, if_pos hm, he]
  · have hnone : lowestPending asked.pending = none := by
      rw [hpending]
      exact (lowestPending_eq_none _).mpr hp
    exact (State.dispatchInterrupt_running hm hf k).trans (congrArg some (State.dispatchRequested_none hnone))
  · have hsome : lowestPending asked.pending ≠ none := by
      rw [hpending]
      exact fun h => hp ((lowestPending_eq_none _).mp h)
    obtain ⟨j, hj⟩ := Option.ne_none_iff_exists'.mp hsome
    exact (State.dispatchInterrupt_running hm hf k).trans (congrArg some (State.dispatchRequested_woken hj hi))
  · have hsome : lowestPending asked.pending = some j := hpending ▸ lowestPending_eq_some hj hlow
    have htaken : asked.dispatchRequested = _ := State.dispatchRequested_taken hsome hi
    have hf' : State.intFlags { asked with halted := false } = f := hflags
    rw [State.enterInterrupt_eq, hf'] at htaken
    exact (State.dispatchInterrupt_running hm hf k).trans (congrArg some htaken)

end Sys2Proof.Machine

/-! PROOFS. The statements about building the machine (70_reset_and_hazards.md): what is in each of its places, and
that it meets the invariant. -/

namespace Sys2Proof.Machine

/-- A pixel of the frame buffer that was drawn at power-on (rule R258). -/
theorem State.build_pixel (b : Setup) {y x : Nat} (hy : y < 144) (hx : x < 160) :
    (State.build b).pixel y x = b.draw.frameBuffer.getD (160 * y + x) blankColor := by
  have h : 0 + (y * 160 + x) < 160 * 144 := by omega
  have hget := Sparse.get_ofList (blank := blankColor) (vs := b.draw.frameBuffer.take (160 * 144)) (k := 0)
    (i := y * 160 + x)
  rw [List.getD_eq_getElem?_getD, List.getElem?_take] at hget
  rw [Nat.zero_add] at h hget
  rw [if_pos h, Nat.mul_comm y, ← List.getD_eq_getElem?_getD] at hget
  rw [State.pixel, Config.screenW, Nat.mul_comm y]
  exact hget

/-- The I/O bytes after building: STAT shows OAMScan (rules R36, R258). -/
theorem State.build_io (b : Setup) (i : Nat) : (State.build b).io i = if i = 0x41 then 0x02 else 0x00 := by
  show (if 0x41 = i then 0x02#8 else 0x00#8) = _
  simp only [eq_comm]
  rfl

/-- Settles O57, row by row: the fixed values, the lists of bytes as storage, and the draw of F with its mask. -/
theorem resetValues : Obligations.ResetValues := by
  intro b s
  have hlow : b.draw.f &&& 0xF0#8 &&& 0x0F#8 = 0#8 := by rw [BitVec.and_assoc]; exact BitVec.and_zero
  have hhigh : b.draw.f &&& 0xF0#8 &&& 0xF0#8 = b.draw.f &&& 0xF0#8 := by rw [BitVec.and_assoc, BitVec.and_self]
  have hly : s.ly = 0 := s.ly_eq.trans (State.build_io b 0x44)
  exact ⟨⟨rfl, rfl, rfl, rfl, rfl⟩, ⟨rfl, rfl, rfl, rfl, rfl, rfl, rfl, rfl, hlow, hhigh⟩, ⟨rfl, rfl, rfl, rfl⟩,
    fun i hi => Memory.get_ofBytes hi, fun i hi => Memory.get_ofBytes hi,
    fun i hi => ⟨Memory.get_ofBytes hi, Memory.get_ofBytes hi, Memory.get_ofBytes hi⟩,
    fun i hi => Memory.get_ofBytes hi, fun i hi => Memory.get_ofBytes hi, fun i _ => State.build_io b i,
    ⟨rfl, rfl, hly, rfl, rfl, rfl, rfl, rfl, rfl, rfl, rfl, rfl, rfl, rfl⟩,
    fun y x hy hx => State.build_pixel b hy hx⟩

theorem State.build_sound (b : Setup) : (State.build b).bus.Sound b.config.romBankCount :=
  ⟨Memory.wf_ofBytes, Memory.wf_ofBytes, Memory.wf_ofBytes, Memory.wf_ofBytes, Memory.wf_ofBytes, Memory.wf_ofBytes,
    rfl, Memory.wf_ofBytes, show 1#5 ≠ 0#5 by decide⟩

/-- Settles O59: lists of bytes make canonical storage, and the machine starts at the head of line 0. -/
theorem buildMeetsTheInvariant : Obligations.BuildMeetsTheInvariant := fun b hvalid =>
  { config := hvalid
    flags := maskF_low b.draw.f
    skip := rfl
    bus := State.build_sound b
    stat := congrArg (· &&& 0x03#8) (State.build_io b 0x41)
    ly := by
      show ((State.build b).io 0x44).toNat < 144
      rw [State.build_io]
      decide
    line := ⟨show 0 < 80 by decide, rfl, rfl, rfl, rfl⟩
    frameBuffer := Sparse.wfFrom_ofList (by rw [Nat.zero_add]; exact List.length_take_le _ _) }

/-- Settles O58: reset is a build. -/
theorem resetMeetsTheInvariant : Obligations.ResetMeetsTheInvariant :=
  buildMeetsTheInvariant Setup.default (by decide)

end Sys2Proof.Machine
